-- ==== Sys2Proof/Word.lean ====
section
/-! DEFINITION. The widths the block works with (R13, R14): every one is fixed, none is a parameter. -/

namespace Sys2Proof

/-- One bit: `R_OK`, `done` (R22, R23). -/
abbrev Bit := BitVec 1
/-- Two bits: `R_ERR`, `R_STAT` (R23). -/
abbrev Crumb := BitVec 2
/-- Eight bits: an opcode, a checksum, a device-register byte, one byte of a reading. -/
abbrev Byte := BitVec 8
/-- Sixteen bits: `value16`, a raw or masked reading, operand B. -/
abbrev Half := BitVec 16
/-- Twenty-four bits: operand A, the word the division works on (R51, R60). -/
abbrev Reading := BitVec 24
/-- Thirty-two bits, read as two's complement: `R_RES`, `R_CENTI` (R26). -/
abbrev Fixed := BitVec 32
/-- Forty-eight bits: a command word (R50). -/
abbrev CmdWord := BitVec 48

end Sys2Proof
end

