-- ==== Sys2Proof/Syntax.lean ====
section
/-! DEFINITION. The command set: one constructor per row of spec/opcode_table.json (R54). -/

namespace Sys2Proof

/-- A command with the operands it reads; the fields it ignores (R53) are not part of it. -/
inductive Instr where
  /-- CRCGEN (R67): compute the check value of `value16`. -/
  | crcgen (value16 : Half)
  /-- CRCCHK (R68): verify `checksum8` against `value16`. -/
  | crcchk (value16 : Half) (checksum8 : Byte)
  /-- REGMERGE (R74): merge `registerBits` into the device-register byte `old`. -/
  | regmerge (old : Byte) (registerBits : Byte)
  /-- EXTRACT (R75): split a raw reading into data and status bits. -/
  | extract (raw : Half)
  /-- CONVT (R82): convert a raw reading to temperature, unverified. -/
  | convt (raw : Half)
  /-- CONVRH (R83): convert a raw reading to relative humidity, unverified. -/
  | convrh (raw : Half)
  /-- MEAST (R87): verify, mask and convert a temperature reading. -/
  | meast (byte0 : Byte) (byte1 : Byte) (byte2 : Byte)
  /-- MEASRH (R88): verify, mask and convert a relative-humidity reading. -/
  | measrh (byte0 : Byte) (byte1 : Byte) (byte2 : Byte)
  deriving DecidableEq, Repr

end Sys2Proof
end

