-- ==== Sys2Proof/Config.lean ====
section
/-! DEFINITION. What is fixed for one block: the parameter LAT (R13), the hardwired constants (R33), the host's
constants (R6 to R8), and the free values of a block that has not been reset yet (R109). -/

namespace Sys2Proof.Config

/-- The block's one parameter (R13). `LAT` is any integer >= 1; holding `LAT - 1` leaves no illegal value.
DESIGN CHOICE (log 2, safe): a parameter record carried in State, since `step` takes a state only. -/
structure Params where
  latMinusOne : Nat
  deriving DecidableEq, Repr

/-- `LAT`: clock edges from the accepting edge to the completing edge, counting the accepting edge (R13). -/
def Params.lat (p : Params) : Nat := p.latMinusOne + 1

/-- The reference value, `LAT = 1` (R13, R115). -/
def Params.reference : Params := { latMinusOne := 0 }

/-! ### Hardwired constants (R33) -/

/-- `POLY` (R33). -/
def poly : BitVec 9 := 0x131#9
/-- `DIVISOR0` (R33): `POLY` shifted left by 15. -/
def divisor0 : Reading := 0x988000#24
/-- `MASK_DATA` (R33). -/
def maskData : Half := 0xFFFC#16
/-- `MASK_STAT` (R33). -/
def maskStat : Half := 0x0003#16
/-- `MASK_RES` (R33). -/
def maskRes : Byte := 0x81#8
/-- `MASK_KEEP` (R33). -/
def maskKeep : Byte := 0x7E#8
/-- `T_OFF` in hundredths (R33). -/
def tOff : Int := -4685
/-- `T_GAIN` in hundredths (R33). -/
def tGain : Int := 17572
/-- `H_OFF` in hundredths (R33). -/
def hOff : Int := -600
/-- `H_GAIN` in hundredths (R33). -/
def hGain : Int := 12500
/-- `SENT_CENTI` (R33, R85): the sentinel 999.0 in centi units. -/
def sentCenti : Int := 99900
/-- `SENT_RES` (R33, R85). -/
def sentRes : Fixed := 0x7FFFFFFF#32

/-! ### Host context (R6 to R8): constants of the host that no step reads -/

/-- The four resolution profiles, a closed set (R6). -/
inductive Profile where
  | rh12t14
  | rh8t12
  | rh10t13
  | rh11t11
  deriving DecidableEq, Repr

/-- The profile's `registerBits` (R6). -/
def Profile.registerBits : Profile → Byte
  | .rh12t14 => 0x00#8
  | .rh8t12 => 0x01#8
  | .rh10t13 => 0x80#8
  | .rh11t11 => 0x81#8

/-- Temperature settling timeout in milliseconds (R6). -/
def Profile.temperatureTimeoutMs : Profile → Nat
  | .rh12t14 => 50
  | .rh8t12 => 13
  | .rh10t13 => 25
  | .rh11t11 => 7

/-- Humidity settling timeout in milliseconds (R6). -/
def Profile.humidityTimeoutMs : Profile → Nat
  | .rh12t14 => 16
  | .rh8t12 => 3
  | .rh10t13 => 5
  | .rh11t11 => 8

/-- The sensor's command bytes (R7). -/
inductive SensorCommand where
  | measureTemperature
  | measureHumidity
  | readRegister
  | writeRegister
  /-- Hold mode: defined and never used by the driver. -/
  | holdE3
  /-- Hold mode: defined and never used by the driver. -/
  | holdE5
  deriving DecidableEq, Repr

/-- The byte of each sensor command (R7). -/
def SensorCommand.code : SensorCommand → Byte
  | .measureTemperature => 0xF3#8
  | .measureHumidity => 0xF5#8
  | .readRegister => 0xE7#8
  | .writeRegister => 0xE6#8
  | .holdE3 => 0xE3#8
  | .holdE5 => 0xE5#8

/-- The sensor's 7-bit bus address (R8). -/
def busAddress : BitVec 7 := 0x40#7
/-- The nominal bus clock in hertz (R8). -/
def busClockHz : Nat := 400000

/-! ### Free values (R109, U7): what an unreset block holds. No body: nothing can be proved of them. -/

opaque unresetLastOp : Nat → Byte
opaque unresetErr : Nat → Crumb
opaque unresetOk : Nat → Bit
opaque unresetCrc : Nat → Byte
opaque unresetRem : Nat → Byte
opaque unresetRaw : Nat → Half
opaque unresetStat : Nat → Crumb
opaque unresetRes : Nat → Fixed
opaque unresetCenti : Nat → Fixed
opaque unresetReg : Nat → Byte
/-- Whether an unreset block's `phase` is BUSY. -/
opaque unresetBusy : Nat → Bool
opaque unresetCnt : Nat → Nat
opaque unresetPend : Nat → CmdWord
opaque unresetDone : Nat → Bit
/-- What an unreset block drives on `cmd_ready`, which "may be 0 or 1" (R109). -/
opaque unresetReady : Nat → Bool

end Sys2Proof.Config
end

