-- ==== Sys2Proof/WellFormed.lean ====
section
/-! DEFINITION. Which commands and which source lines are well formed. -/

namespace Sys2Proof

/-- "no combination of field values inside a valid opcode is illegal" (R55): the operand widths of `Instr` are
the fields' widths, and nothing further is asked. A REGMERGE `registerBits` outside the four profiles is legal
too (R74, D24). -/
def Instr.wellFormed : Instr → Bool
  | .crcgen _ => true
  | .crcchk _ _ => true
  | .regmerge _ _ => true
  | .extract _ => true
  | .convt _ => true
  | .convrh _ => true
  | .meast _ _ _ => true
  | .measrh _ _ _ => true

/-- A source line of the assembler (R58) with its operands as written, in range or not; the two
pseudo-instructions of R59 are lines of their own. -/
inductive SourceLine where
  | crcgen (v16 : Int)
  | crcchk (v16 c8 : Int)
  | regmerge (old8 bits8 : Int)
  | extract (raw16 : Int)
  | convt (raw16 : Int)
  | convrh (raw16 : Int)
  | meast (b0 b1 b2 : Int)
  | measrh (b0 b1 b2 : Int)
  /-- `.cmd w48`: the word as written, any opcode (R58). -/
  | cmd (w48 : Int)
  /-- VERIFY (R59). -/
  | verify (b0 b1 b2 : Int)
  /-- SETRES (R59); the profile is one of the closed set of R6. -/
  | setres (old8 : Int) (profile : Config.Profile)
  deriving DecidableEq, Repr

/-- An operand fits its field: not negative and below `2^bits` (R58). -/
def operandFits (bits : Nat) (n : Int) : Bool := decide (0 ≤ n ∧ n < 2 ^ bits)

/-- Every operand of the line fits its field (R58); any other line is refused by the assembler. -/
def SourceLine.wellFormed : SourceLine → Bool
  | .crcgen v16 => operandFits 16 v16
  | .crcchk v16 c8 => operandFits 16 v16 && operandFits 8 c8
  | .regmerge old8 bits8 => operandFits 8 old8 && operandFits 8 bits8
  | .extract raw16 => operandFits 16 raw16
  | .convt raw16 => operandFits 16 raw16
  | .convrh raw16 => operandFits 16 raw16
  | .meast b0 b1 b2 => operandFits 8 b0 && operandFits 8 b1 && operandFits 8 b2
  | .measrh b0 b1 b2 => operandFits 8 b0 && operandFits 8 b1 && operandFits 8 b2
  | .cmd w48 => operandFits 48 w48
  | .verify b0 b1 b2 => operandFits 8 b0 && operandFits 8 b1 && operandFits 8 b2
  | .setres old8 _ => operandFits 8 old8

end Sys2Proof
end

