-- ==== Sys2Proof/Decode.lean ====
section
/-! DEFINITION. The command word (R50 to R57): its fields, the decoder, the encoder, and both for words written
as bytes (R38). -/

namespace Sys2Proof

/-! ### Fields of a command word (R50 to R52) -/

/-- `OP = cmd[47:40]`. -/
def opOf (w : CmdWord) : Byte := w.extractLsb' 40 8
/-- `B = cmd[39:24]`. -/
def operandB (w : CmdWord) : Half := w.extractLsb' 24 16
/-- `A = cmd[23:0]`. -/
def operandA (w : CmdWord) : Reading := w.extractLsb' 0 24
/-- `A[23:8]`: `value16` of a checksum command, the raw reading of the others (R51). -/
def value16Of (a : Reading) : Half := a.extractLsb' 8 16
/-- `A[7:0]`: `checksum8` (R51). -/
def checksum8Of (a : Reading) : Byte := a.extractLsb' 0 8
/-- `A[23:16]`: byte0, the MSB of the reading (R37, R51). -/
def byte0Of (a : Reading) : Byte := a.extractLsb' 16 8
/-- `A[15:8]`: byte1, the LSB of the reading (R37, R51). -/
def byte1Of (a : Reading) : Byte := a.extractLsb' 8 8
/-- `A[7:0]`: byte2, the checksum (R37, R51). -/
def byte2Of (a : Reading) : Byte := a.extractLsb' 0 8
/-- `B[7:0]`: the device-register byte read from the sensor (R52). -/
def oldOf (b : Half) : Byte := b.extractLsb' 0 8
/-- `B[15:8]`: the profile's `registerBits` (R52). -/
def registerBitsOf (b : Half) : Byte := b.extractLsb' 8 8

/-! ### The opcode map (R54) -/

/-- The opcode byte of each command (R54). -/
def Instr.opcode : Instr → Byte
  | .crcgen _ => 0x01#8
  | .crcchk _ _ => 0x02#8
  | .regmerge _ _ => 0x03#8
  | .extract _ => 0x04#8
  | .convt _ => 0x05#8
  | .convrh _ => 0x06#8
  | .meast _ _ _ => 0x07#8
  | .measrh _ _ _ => 0x08#8

/-- What a command word is (R55): exactly one of the eight commands or the reserved case. -/
inductive Decoded where
  | command (i : Instr)
  /-- An opcode that selects no command, 0x00 or 0x09 to 0xFF (R56). -/
  | reserved (op : Byte)
  deriving DecidableEq, Repr

/-- The decoder: total, from `OP` alone (R54, R55). Ignored fields are read by nothing (R53). -/
def decode (w : CmdWord) : Decoded :=
  match (opOf w).toNat with
  | 0x01 => .command (.crcgen (value16Of (operandA w)))
  | 0x02 => .command (.crcchk (value16Of (operandA w)) (checksum8Of (operandA w)))
  | 0x03 => .command (.regmerge (oldOf (operandB w)) (registerBitsOf (operandB w)))
  | 0x04 => .command (.extract (value16Of (operandA w)))
  | 0x05 => .command (.convt (value16Of (operandA w)))
  | 0x06 => .command (.convrh (value16Of (operandA w)))
  | 0x07 => .command (.meast (byte0Of (operandA w)) (byte1Of (operandA w)) (byte2Of (operandA w)))
  | 0x08 => .command (.measrh (byte0Of (operandA w)) (byte1Of (operandA w)) (byte2Of (operandA w)))
  | _ => .reserved (opOf w)

/-! ### The encoder -/

/-- A command word from its three fields (R50). -/
def packWord (op : Byte) (b : Half) (a : Reading) : CmdWord := op ++ b ++ a

/-- Operand B of a command, 0 in the fields it ignores (R53, R58). -/
def Instr.fieldB : Instr → Half
  | .regmerge old bits => bits ++ old
  | .crcgen _ => 0#16
  | .crcchk _ _ => 0#16
  | .extract _ => 0#16
  | .convt _ => 0#16
  | .convrh _ => 0#16
  | .meast _ _ _ => 0#16
  | .measrh _ _ _ => 0#16

/-- Operand A of a command, 0 in the fields it ignores (R53, R58). -/
def Instr.fieldA : Instr → Reading
  | .crcgen v => v ++ 0x00#8
  | .crcchk v c => v ++ c
  | .regmerge _ _ => 0#24
  | .extract r => r ++ 0x00#8
  | .convt r => r ++ 0x00#8
  | .convrh r => r ++ 0x00#8
  | .meast b0 b1 b2 => b0 ++ b1 ++ b2
  | .measrh b0 b1 b2 => b0 ++ b1 ++ b2

/-- The encoder: the word the assembler of R58 gives the command. -/
def encode (i : Instr) : CmdWord := packWord i.opcode i.fieldB i.fieldA

/-- The bits a command reads, its opcode included: the complement of its `x` bits (R54). -/
def Instr.usedBits : Instr → CmdWord
  | .crcgen _ => 0xFF0000FFFF00#48
  | .crcchk _ _ => 0xFF0000FFFFFF#48
  | .regmerge _ _ => 0xFFFFFF000000#48
  | .extract _ => 0xFF0000FFFF00#48
  | .convt _ => 0xFF0000FFFF00#48
  | .convrh _ => 0xFF0000FFFF00#48
  | .meast _ _ _ => 0xFF0000FFFFFF#48
  | .measrh _ _ _ => 0xFF0000FFFFFF#48

/-! ### Words written as bytes (R38): big-endian, the opcode byte first -/

/-- Why bytes give no command. -/
inductive DecodeReject where
  /-- The opcode selects no command (R56). The block still completes such a word (R90). -/
  | reservedOpcode (op : Byte)
  /-- Every command is exactly six bytes (R57). -/
  | wrongLength (bytes : Nat)
  deriving DecidableEq, Repr

/-- The word six bytes make (R38). -/
def wordOfBytes : List Byte → Except DecodeReject CmdWord
  | [b0, b1, b2, b3, b4, b5] => .ok (b0 ++ b1 ++ b2 ++ b3 ++ b4 ++ b5)
  | bytes => .error (.wrongLength bytes.length)

/-- The bytes of a word: byte 0 is `cmd[47:40]`, byte 5 is `cmd[7:0]` (R38). -/
def bytesOfWord (w : CmdWord) : List Byte :=
  [w.extractLsb' 40 8, w.extractLsb' 32 8, w.extractLsb' 24 8, w.extractLsb' 16 8, w.extractLsb' 8 8, w.extractLsb' 0 8]

/-- The decoder on bytes, total on any list of them. -/
def decodeBytes (bytes : List Byte) : Except DecodeReject Instr :=
  match wordOfBytes bytes with
  | .error e => .error e
  | .ok w =>
    match decode w with
    | .command i => .ok i
    | .reserved op => .error (.reservedOpcode op)

/-! ### Words as spec/opcode_table.json numbers them -/

/-- The command word whose bits are `w`, those from `nbits` up being 0. The table's one unit is the 48-bit word
itself, bit 0 its least significant bit. -/
def tableWord (nbits w : Nat) : CmdWord := BitVec.ofNat 48 (w % 2 ^ nbits)

/-- The command the decoder reads from the table's word; none for a reserved opcode, and none for more than 48
bits, which no command has (R57). -/
def decodeTableWord (nbits w : Nat) : Option Instr :=
  if nbits ≤ 48 then
    match decode (tableWord nbits w) with
    | .command i => some i
    | .reserved _ => none
  else none

end Sys2Proof
end

