-- ==== Sys2Proof/Machine/Operands.lean ====
section
/-! DEFINITION. How the operands of a command make the values its rule computes on (R37, R51). -/

namespace Sys2Proof.Machine

/-- `{v, c}`: the value in the high 16 bits, the checksum in the low 8 (R37, R60). -/
def pairWord (v : Half) (c : Byte) : Reading := v ++ c

/-- `{byte0, byte1, byte2}`: operand A of a measurement, as on the wire (R37, R51). -/
def wireReading (b0 b1 b2 : Byte) : Reading := b0 ++ b1 ++ b2

end Sys2Proof.Machine
end

