-- ==== Sys2Proof/Machine/State.lean ====
section
/-! DEFINITION. Everything the block holds (R22, R23, R32), what the host drives (R21), and the state after
reset (R34). -/

namespace Sys2Proof.Machine

/-- Why the machine stops with a fault: never. "The block has no trap" (R93); every error is a code in `R_ERR`
(R89) and the machine goes on. DEDUCED (log 10, safe). -/
inductive Fault where
  deriving DecidableEq, Repr

/-- The block's input ports (R21), `clk` apart: a step is its rising edge. -/
inductive InputPin where
  | rst
  | cmdValid
  | cmd
  deriving DecidableEq, Repr

/-- Why a step is given no meaning. -/
inductive Refusal where
  /-- Raised by a command that has no meaning yet. Safe. -/
  | notModelled (mnemonic : String)
  /-- Raised by a step that reads an input which is unknown or changing at the edge: "a model refuses such a
  run" (R114, U10). Safe: nothing is claimed of such a run. -/
  | unknownInput (pin : InputPin)
  deriving DecidableEq, Repr

/-- The level of a one-bit port. -/
inductive PinLevel where
  | low
  | high
  /-- Neither 0 nor 1 at the edge, or changing there (R114). -/
  | unknown
  deriving DecidableEq, Repr

/-- What stands on the 48-bit port `cmd`. -/
inductive CmdLevel where
  | word (w : CmdWord)
  /-- At least one of the 48 bits is unknown or changing at the edge (R114). -/
  | unknown
  deriving DecidableEq, Repr

/-- The input ports in one cycle (R21). -/
structure Pins where
  rst : PinLevel
  cmdValid : PinLevel
  cmd : CmdLevel
  deriving DecidableEq, Repr

/-- `phase` (R32). -/
inductive Phase where
  | idle
  | busy
  deriving DecidableEq, Repr

/-- Whether the block has seen an edge with `rst == 1`; before it everything is unspecified (R109). -/
inductive Power where
  | unreset
  | operating
  deriving DecidableEq, Repr

/-- The ten result registers (R23). -/
structure Results where
  /-- `R_LASTOP` -/
  rLastOp : Byte
  /-- `R_ERR` -/
  rErr : Crumb
  /-- `R_OK` -/
  rOk : Bit
  /-- `R_CRC` -/
  rCrc : Byte
  /-- `R_REM` -/
  rRem : Byte
  /-- `R_RAW` -/
  rRaw : Half
  /-- `R_STAT` -/
  rStat : Crumb
  /-- `R_RES` -/
  rRes : Fixed
  /-- `R_CENTI` -/
  rCenti : Fixed
  /-- `R_REG` -/
  rReg : Byte
  deriving DecidableEq, Repr

/-- Every result register 0: their values after reset (R34), and what a command writes where its rule gives
nothing (R24). -/
def Results.zero : Results :=
  { rLastOp := 0x00#8, rErr := 0#2, rOk := 0#1, rCrc := 0x00#8, rRem := 0x00#8, rRaw := 0x0000#16, rStat := 0#2,
    rRes := 0x00000000#32, rCenti := 0x00000000#32, rReg := 0x00#8 }

/-- The machine. -/
structure State where
  /-- The ten result registers (R23). -/
  results : Results
  /-- `done` (R22, R107). -/
  done : Bit
  /-- `phase` (R32). -/
  phase : Phase
  /-- `cnt` (R32), a count of edges. DESIGN CHOICE (log 8, safe): a natural number. -/
  cnt : Nat
  /-- `pend` (R32). -/
  pend : CmdWord
  /-- `LAT` (R13), fixed (log 2). -/
  params : Config.Params
  /-- What the host drives in this cycle and the next ones (R21). DESIGN CHOICE (log 1). -/
  inputs : List Pins
  /-- Whether a reset edge has been seen (R109; log 3). -/
  power : Power
  /-- The model's own: how many times free values have been drawn (log 4). -/
  draws : Nat
  deriving DecidableEq, Repr

/-- The block right after a reset edge (R34), at the reference `LAT` (R13), with nothing driven yet. -/
def State.reset : State :=
  { results := Results.zero
    done := 0#1
    phase := .idle
    cnt := 0
    pend := 0x000000000000#48
    params := Config.Params.reference
    inputs := []
    power := .operating
    draws := 0 }

/-- The output ports (R22): the result registers each drive a port of their own name. -/
structure Outputs where
  results : Results
  cmdReady : PinLevel
  done : Bit
  deriving DecidableEq, Repr

end Sys2Proof.Machine
end

