-- ==== Sys2Proof/Machine/Ops.lean ====
section
/-! DEFINITION. The shared operations: the functions of R17, the writes of a completing edge, of a reset edge and
of the other edges, the ports. -/

namespace Sys2Proof.Machine

/-! ### The modulo-2 division (R60 to R64) -/

/-- The running remainder and divisor of R60 after `k` iterations, the first being `i = 23`. -/
def div24After (w : Reading) : Nat → Reading × Reading
  | 0 => (w, Config.divisor0)
  | k + 1 =>
    let p := div24After w k
    (if p.1.getLsbD (23 - k) then p.1 ^^^ p.2 else p.1, p.2 >>> 1)

/-- `DIV24(w)`: the remainder after the 16 iterations `i = 23` down to `8` (R60). -/
def div24 (w : Reading) : Reading := (div24After w 16).1

/-- `CRC8(v) = DIV24({v, 0x00})[7:0]` (R62). -/
def crc8 (v : Half) : Byte := (div24 (pairWord v 0x00#8)).extractLsb' 0 8

/-- `0x31`: `POLY` without its bit 8 (R64). -/
def polyLow : Byte := Config.poly.extractLsb' 0 8

/-- One bit of the byte-serial form (R64). -/
def crcBit (crc : Byte) : Byte := if crc.getLsbD 7 then (crc <<< 1) ^^^ polyLow else crc <<< 1

/-- `crcBit` repeated. -/
def crcBits : Nat → Byte → Byte
  | 0, crc => crc
  | n + 1, crc => crcBits n (crcBit crc)

/-- The byte-serial form over a list of bytes, first on the wire first (R64). -/
def crcSerial (bytes : List Byte) : Byte := bytes.foldl (fun crc b => crcBits 8 (crc ^^^ b)) 0x00#8

/-- `CRC8` by the byte-serial form: the MSB first (R64). -/
def crc8Serial (v : Half) : Byte := crcSerial [v.extractLsb' 8 8, v.extractLsb' 0 8]

/-! ### Bit fields (R70, R72) -/

/-- `MERGE(old, bits)` (R70). -/
def merge (old bits : Byte) : Byte := (old &&& Config.maskKeep) ||| (bits &&& Config.maskRes)

/-- `MASKRAW(r)` (R72). -/
def maskRaw (r : Half) : Half := r &&& Config.maskData

/-- `STATUS(r) = r[1:0]` (R72). -/
def status (r : Half) : Crumb := r.extractLsb' 0 2

/-! ### Fixed-point conversion (R76 to R79) -/

/-- `TNUM(m)` in exact units (R76). -/
def tnum (m : Half) : Int := Config.tGain * m.toNat + Config.tOff * 65536

/-- `HNUM(m)` in exact units (R77). -/
def hnum (m : Half) : Int := Config.hGain * m.toNat + Config.hOff * 65536

/-- `CENTI(n) = floor(n / 65536)` (R79); the divisor is positive, so Lean's integer division is the floor. -/
def centi (n : Int) : Int := n / 65536

/-- `int32(n)`: the 32-bit two's complement pattern of `n` (R15). Every use is within range (R78). -/
def int32 (n : Int) : Fixed := BitVec.ofInt 32 n

/-- What a measurement is of (R84). -/
inductive Quantity where
  | temperature
  | humidity
  deriving DecidableEq, Repr

/-- The conversion of each quantity (R84). -/
def Quantity.num : Quantity → Half → Int
  | .temperature => tnum
  | .humidity => hnum

/-- The four registers a conversion of the raw reading `r` fills: the masked reading, its status bits, the exact
and the centi result (R82 to R84). Masking comes before converting. -/
def Results.convert (q : Quantity) (r : Half) (res : Results) : Results :=
  { res with
    rRaw := maskRaw r
    rStat := status r
    rRes := int32 (q.num (maskRaw r))
    rCenti := int32 (centi (q.num (maskRaw r))) }

/-! ### Edges (R104) -/

/-- A completing edge: all ten result registers at once, and the `done` pulse (R16, R24, R42, R104). -/
def State.complete (s : State) (r : Results) : State := { s with results := r, done := 1#1 }

/-- A reset edge: every piece of state takes its value of R34, whatever the phase (R108). The parameter and what
the host will drive are no state of R34. -/
def State.resetEdge (s : State) : State :=
  { s with
    results := Results.zero
    done := 0#1
    phase := .idle
    cnt := 0
    pend := 0x000000000000#48
    power := .operating }

/-- An edge with `rst == 0` before the first reset edge: every piece of state is any value, and whether a command
offered here is taken is not known (R109, U7). Each is a free value of Config, fresh at each edge. -/
def State.unresetEdge (s : State) : State :=
  { s with
    results :=
      { rLastOp := Config.unresetLastOp s.draws
        rErr := Config.unresetErr s.draws
        rOk := Config.unresetOk s.draws
        rCrc := Config.unresetCrc s.draws
        rRem := Config.unresetRem s.draws
        rRaw := Config.unresetRaw s.draws
        rStat := Config.unresetStat s.draws
        rRes := Config.unresetRes s.draws
        rCenti := Config.unresetCenti s.draws
        rReg := Config.unresetReg s.draws }
    done := Config.unresetDone s.draws
    phase := if Config.unresetBusy s.draws then .busy else .idle
    cnt := Config.unresetCnt s.draws
    pend := Config.unresetPend s.draws
    draws := s.draws + 1 }

/-- The block as power comes up, before any edge: unreset, everything free (R109). -/
def State.powerOn (params : Config.Params) (inputs : List Pins) (draws : Nat) : State :=
  { State.reset with params := params, inputs := inputs, power := .unreset, draws := draws }.unresetEdge

/-- The host drives nothing: no reset, no offer. -/
def Pins.quiet : Pins := { rst := .low, cmdValid := .low, cmd := .word 0#48 }

/-- The host asserts `rst`. -/
def Pins.resetting : Pins := { rst := .high, cmdValid := .low, cmd := .word 0#48 }

/-- The host offers the word `w` (R117). -/
def Pins.offer (w : CmdWord) : Pins := { rst := .low, cmdValid := .high, cmd := .word w }

/-- The input ports in the cycle before the coming edge. Past the end of `inputs` the host drives nothing
(DESIGN CHOICE, log 1). -/
def State.pins (s : State) : Pins := s.inputs.headD Pins.quiet

/-- The start of the step at an edge: the cycle's inputs are spent, and `done <- 0` (R104). -/
def State.edge (s : State) : State := { s with inputs := s.inputs.tail, done := 0#1 }

/-- An accepting edge with `LAT >= 2`: `pend <- cmd`, `cnt <- LAT - 1`, `phase <- BUSY` (R104). -/
def State.hold (s : State) (w : CmdWord) : State := { s with pend := w, cnt := s.params.lat - 1, phase := .busy }

/-- One BUSY edge before the last: `cnt <- cnt - 1` (R104). -/
def State.countDown (s : State) : State := { s with cnt := s.cnt - 1 }

/-- The last BUSY edge: `phase <- IDLE`, `cnt <- 0` (R104). -/
def State.release (s : State) : State := { s with phase := .idle, cnt := 0 }

/-! ### Output ports (R22) -/

/-- `cmd_ready = (phase == IDLE) & (rst == 0)`, a combinational function (R22); 0 or 1 freely before the first
reset edge (R109). With `rst` unknown it is unknown unless `phase` decides it (DEDUCED, log 12, safe). -/
def State.cmdReady (s : State) : PinLevel :=
  match s.power, s.phase, s.pins.rst with
  | .unreset, _, _ => if Config.unresetReady s.draws then .high else .low
  | .operating, .busy, _ => .low
  | .operating, .idle, .high => .low
  | .operating, .idle, .low => .high
  | .operating, .idle, .unknown => .unknown

/-- Every output port (R22). Reading them changes nothing (R43): they are functions of the state. -/
def State.outputs (s : State) : Outputs := { results := s.results, cmdReady := s.cmdReady, done := s.done }

end Sys2Proof.Machine
end

