-- ==== Sys2Proof/Machine/Flags.lean ====
section
/-! DEFINITION. The block's flags, `R_OK` and `R_ERR` (R28), and `raise` (R16). -/

namespace Sys2Proof.Machine

/-- The error codes of `R_ERR` (R89); code 3 is reserved and never written. -/
inductive ErrorCode where
  | none
  | checksumFailed
  | illegalOp
  deriving DecidableEq, Repr

/-- The code of each error (R89). -/
def ErrorCode.code : ErrorCode → Crumb
  | .none => 0#2
  | .checksumFailed => 1#2
  | .illegalOp => 2#2

/-- `raise E`: the command's write set has `R_ERR <- code(E)`; control goes nowhere and nothing else stops (R16,
R93). -/
def Results.raise (e : ErrorCode) (r : Results) : Results := { r with rErr := e.code }

/-- The verdict on a 24-bit word `{v, c}`: its remainder is 0 (R63). -/
def verdict (a : Reading) : Bool := div24 a == 0#24

/-- `VALID(v, c)` (R63). -/
def valid (v : Half) (c : Byte) : Bool := verdict (pairWord v c)

/-- What a verifying command writes of the checksum unit: `R_CRC`, `R_REM` and the verdict in `R_OK` (R68, R84).
`R_CRC` is the check value of the word's value whatever its checksum byte is. -/
def Results.verify (a : Reading) (r : Results) : Results :=
  { r with
    rCrc := crc8 (value16Of a)
    rRem := (div24 a).extractLsb' 0 8
    rOk := BitVec.ofBool (verdict a) }

/-- A result set with only `R_LASTOP` filled (R24): what each command starts from. -/
def Results.ofOpcode (op : Byte) : Results := { Results.zero with rLastOp := op }

end Sys2Proof.Machine
end

