-- ==== Sys2Proof/Machine/Bitfield.lean ====
section
/-! DEFINITION. The bit-field commands, REGMERGE and EXTRACT (spec/41_bitfield.md). -/

namespace Sys2Proof.Machine

/-- REGMERGE (R74). -/
def execRegmerge (old bits : Byte) (s : State) : Host.Outcome State Fault Refusal :=
  .next (s.complete { Results.ofOpcode 0x03#8 with rReg := merge old bits })

/-- EXTRACT (R75): no verification. -/
def execExtract (r : Half) (s : State) : Host.Outcome State Fault Refusal :=
  .next (s.complete { Results.ofOpcode 0x04#8 with rRaw := maskRaw r, rStat := status r })

end Sys2Proof.Machine
end

