-- ==== Sys2Proof/Machine/Checksum.lean ====
section
/-! DEFINITION. The checksum commands, CRCGEN and CRCCHK (spec/40_crc.md). -/

namespace Sys2Proof.Machine

/-- CRCGEN (R67). -/
def execCrcgen (v : Half) (s : State) : Host.Outcome State Fault Refusal :=
  .next (s.complete { Results.ofOpcode 0x01#8 with rCrc := crc8 v, rRem := crc8 v })

/-- CRCCHK (R68): the verdict is the answer, a mismatch is no error. -/
def execCrcchk (v : Half) (c : Byte) (s : State) : Host.Outcome State Fault Refusal :=
  .next (s.complete ((Results.ofOpcode 0x02#8).verify (pairWord v c)))

end Sys2Proof.Machine
end

