-- ==== Sys2Proof/Machine/Convert.lean ====
section
/-! DEFINITION. The conversion commands, CONVT and CONVRH (spec/42_convert.md). -/

namespace Sys2Proof.Machine

/-- CONVT (R82): no verification. -/
def execConvt (r : Half) (s : State) : Host.Outcome State Fault Refusal :=
  .next (s.complete ((Results.ofOpcode 0x05#8).convert .temperature r))

/-- CONVRH (R83): no verification. -/
def execConvrh (r : Half) (s : State) : Host.Outcome State Fault Refusal :=
  .next (s.complete ((Results.ofOpcode 0x06#8).convert .humidity r))

end Sys2Proof.Machine
end

