-- ==== Sys2Proof/Machine/Measure.lean ====
section
/-! DEFINITION. The measurement commands, MEAST and MEASRH (spec/43_measure.md). -/

namespace Sys2Proof.Machine

/-- What a failed measurement leaves beside the checksum unit's registers: the sentinels and CHECKSUM_FAILED (R84,
R85). -/
def Results.sentinel (r : Results) : Results :=
  { r with rRes := Config.sentRes, rCenti := int32 Config.sentCenti }.raise .checksumFailed

/-- `MEASURE(kind, A)` on the result set `r` (R84): verify the unmasked word, then mask and convert, or discard the
reading. -/
def Results.measure (q : Quantity) (a : Reading) (r : Results) : Results :=
  if verdict a then (r.verify a).convert q (value16Of a) else (r.verify a).sentinel

/-- MEAST (R87). -/
def execMeast (b0 b1 b2 : Byte) (s : State) : Host.Outcome State Fault Refusal :=
  .next (s.complete ((Results.ofOpcode 0x07#8).measure .temperature (wireReading b0 b1 b2)))

/-- MEASRH (R88). -/
def execMeasrh (b0 b1 b2 : Byte) (s : State) : Host.Outcome State Fault Refusal :=
  .next (s.complete ((Results.ofOpcode 0x08#8).measure .humidity (wireReading b0 b1 b2)))

end Sys2Proof.Machine
end

