-- ==== Sys2Proof/Machine/Dispatch.lean ====
section
/-! DEFINITION. One arm per command. `exec` is COMPLETE of R104 for a command: its result set and the `done`
pulse. -/

namespace Sys2Proof.Machine

def exec (i : Instr) (s : State) : Host.Outcome State Fault Refusal :=
  match i with
  | .crcgen value16 => Sys2Proof.Machine.execCrcgen value16 s
  | .crcchk value16 checksum8 => Sys2Proof.Machine.execCrcchk value16 checksum8 s
  | .regmerge old registerBits => Sys2Proof.Machine.execRegmerge old registerBits s
  | .extract raw => Sys2Proof.Machine.execExtract raw s
  | .convt raw => Sys2Proof.Machine.execConvt raw s
  | .convrh raw => Sys2Proof.Machine.execConvrh raw s
  | .meast byte0 byte1 byte2 => Sys2Proof.Machine.execMeast byte0 byte1 byte2 s
  | .measrh byte0 byte1 byte2 => Sys2Proof.Machine.execMeasrh byte0 byte1 byte2 s

end Sys2Proof.Machine
end

