-- ==== Sys2Proof/Machine/Clock.lean ====
section
/-! DEFINITION. The clock-edge step (spec/70_reset_and_hazards.md R104), the completion of a word, reserved opcodes
included, and the placing of a word where the next edge runs it. -/

namespace Sys2Proof.Machine

/-- A command with a reserved opcode: ILLEGAL_OP, `R_LASTOP`, every other result 0 (R90). The machine goes on. -/
def execReserved (op : Byte) (s : State) : Host.Outcome State Fault Refusal :=
  .next (s.complete ((Results.ofOpcode op).raise .illegalOp))

/-- `COMPLETE(w)` (R104): the opcode is decoded first (R92). -/
def completeWord (w : CmdWord) (s : State) : Host.Outcome State Fault Refusal :=
  match decode w with
  | .command i => exec i s
  | .reserved op => execReserved op s

/-- The accepting edge of the word `w` (R104): with `LAT == 1` it is the completing edge too. -/
def acceptWord (w : CmdWord) (s : State) : Host.Outcome State Fault Refusal :=
  if s.params.lat = 1 then completeWord w s else .next (s.hold w)

/-- An edge with `phase == IDLE` and `rst == 0` (R104, R105). `cmd` is read only when `cmd_valid` is 1; an unknown
input is refused where it is read (R114, log 7). -/
def idleEdge (p : Pins) (s : State) : Host.Outcome State Fault Refusal :=
  match p.cmdValid with
  | .low => .next s
  | .unknown => .refused (.unknownInput .cmdValid)
  | .high =>
    match p.cmd with
    | .unknown => .refused (.unknownInput .cmd)
    | .word w => acceptWord w s

/-- An edge with `phase == BUSY` and `rst == 0` (R104): `cmd_valid` and `cmd` are not read (R105). R104 writes `phase`
and `cnt` after COMPLETE; all take effect together and COMPLETE reads and writes neither, so the order is free
(DEDUCED, log 9, safe). -/
def busyEdge (s : State) : Host.Outcome State Fault Refusal :=
  if s.cnt = 1 then completeWord s.pend s.release else .next s.countDown

/-- One rising edge (R104, R108): reset first, then the block's own step. -/
def clockEdge (s : State) : Host.Outcome State Fault Refusal :=
  match s.pins.rst with
  | .unknown => .refused (.unknownInput .rst)
  | .high => .next s.edge.resetEdge
  | .low =>
    match s.power with
    | .unreset => .next s.edge.unresetEdge
    | .operating =>
      match s.phase with
      | .idle => idleEdge s.pins s.edge
      | .busy => busyEdge s.edge

/-- `s` with the word `w` placed so that the very next edge runs it. With `LAT = 1` the host offers it to an idle
block; otherwise it is the pending command one edge before it completes. The block has no program: this stands for
the host's offer (log 6). -/
def State.placeWord (s : State) (w : CmdWord) : State :=
  if s.params.lat = 1 then
    { s with phase := .idle, cnt := 0, power := .operating, inputs := Pins.offer w :: s.inputs }
  else
    { s with phase := .busy, cnt := 1, pend := w, power := .operating, inputs := Pins.quiet :: s.inputs }

end Sys2Proof.Machine
end

