-- ==== Sys2Proof/Machine/Step.lean ====
section
/-! DEFINITION. One step of the machine: one rising edge of `clk` (R104). -/

namespace Sys2Proof.Machine

/-- One rising edge (R104). -/
def step (s : State) : Host.Outcome State Fault Refusal := clockEdge s

/-- `s` with the table's word placed where the next step runs it. -/
def State.withFetchWord (s : State) (nbits w : Nat) : State := s.placeWord (tableWord nbits w)

end Sys2Proof.Machine
end

