-- ==== Sys2Proof/Machine/Assembler.lean ====
section
/-! DEFINITION. The assembler (R58, R59): source lines to command words, and the text of one line to a source
line. -/

namespace Sys2Proof

/-- Why the assembler refuses a line (R58, R59). -/
inductive AsmError where
  /-- An operand is negative or does not fit its field (R58). -/
  | operandOutOfRange
  /-- SETRES names no profile of the closed set (R59). -/
  | unknownProfile
  /-- The first word is no mnemonic of R58 or R59. -/
  | unknownMnemonic
  /-- The mnemonic takes another number of operands (R58). -/
  | wrongOperandCount
  /-- An operand is no decimal or `0x` hex number (R58). -/
  | notANumber
  deriving DecidableEq, Repr

/-- The command a line stands for, its operands cut to their fields; `none` for `.cmd`. VERIFY is CRCCHK of
`{b0, b1}` and `b2`, SETRES is REGMERGE with the profile's `registerBits` (R59). -/
def SourceLine.instr : SourceLine → Option Instr
  | .crcgen v16 => some (.crcgen (BitVec.ofInt 16 v16))
  | .crcchk v16 c8 => some (.crcchk (BitVec.ofInt 16 v16) (BitVec.ofInt 8 c8))
  | .regmerge old8 bits8 => some (.regmerge (BitVec.ofInt 8 old8) (BitVec.ofInt 8 bits8))
  | .extract raw16 => some (.extract (BitVec.ofInt 16 raw16))
  | .convt raw16 => some (.convt (BitVec.ofInt 16 raw16))
  | .convrh raw16 => some (.convrh (BitVec.ofInt 16 raw16))
  | .meast b0 b1 b2 => some (.meast (BitVec.ofInt 8 b0) (BitVec.ofInt 8 b1) (BitVec.ofInt 8 b2))
  | .measrh b0 b1 b2 => some (.measrh (BitVec.ofInt 8 b0) (BitVec.ofInt 8 b1) (BitVec.ofInt 8 b2))
  | .cmd _ => none
  | .verify b0 b1 b2 => some (.crcchk (BitVec.ofInt 8 b0 ++ BitVec.ofInt 8 b1) (BitVec.ofInt 8 b2))
  | .setres old8 profile => some (.regmerge (BitVec.ofInt 8 old8) profile.registerBits)

/-- The word of a line whose operands fit (R58). -/
def SourceLine.word (l : SourceLine) : CmdWord :=
  match l with
  | .cmd w48 => BitVec.ofInt 48 w48
  | _ => (l.instr.map encode).getD 0#48

/-- The assembler: a line with an operand that does not fit is refused, never truncated (R58). -/
def assemble (l : SourceLine) : Except AsmError CmdWord :=
  if l.wellFormed then .ok l.word else .error .operandOutOfRange

/-! ### The text of one line. R58 gives the syntax in words; blanks, letter case and empty lines are a DESIGN
CHOICE (log 11, safe: no step reads text). -/

/-- A space or a tab. -/
def isBlank (c : Char) : Bool := c == ' ' || c == '\t'

/-- A text without the blanks at its two ends. -/
def trimBlanks (cs : List Char) : List Char := ((cs.dropWhile isBlank).reverse.dropWhile isBlank).reverse

/-- `;` starts a comment (R58). -/
def stripComment (cs : List Char) : List Char := cs.takeWhile (fun c => !(c == ';'))

/-- The pieces between commas, at least one. -/
def splitCommas : List Char → List (List Char)
  | [] => [[]]
  | c :: cs =>
    if c == ',' then [] :: splitCommas cs
    else
      match splitCommas cs with
      | [] => [[c]]
      | piece :: rest => (c :: piece) :: rest

/-- The value of a digit of the base. -/
def digitOf (base : Nat) (c : Char) : Option Nat :=
  let n := c.toNat
  let d :=
    if 48 ≤ n ∧ n ≤ 57 then some (n - 48)
    else if 97 ≤ n ∧ n ≤ 102 then some (n - 87)
    else if 65 ≤ n ∧ n ≤ 70 then some (n - 55)
    else none
  d.bind (fun k => if k < base then some k else none)

/-- The digits of a number, most significant first, onto what stands before them. -/
def digitsOf (base : Nat) : Nat → List Char → Option Nat
  | acc, [] => some acc
  | acc, c :: cs => (digitOf base c).bind (fun d => digitsOf base (acc * base + d) cs)

/-- A number in decimal or `0x` hex (R58), with at least one digit. -/
def naturalOf : List Char → Option Nat
  | [] => none
  | '0' :: 'x' :: [] => none
  | '0' :: 'x' :: cs => digitsOf 16 0 cs
  | cs => digitsOf 10 0 cs

/-- A number with an optional minus sign: a negative one is read, and refused as out of range (R58). -/
def numberOf : List Char → Except AsmError Int
  | '-' :: cs => match naturalOf cs with
    | some n => .ok (-(n : Int))
    | none => .error .notANumber
  | cs => match naturalOf cs with
    | some n => .ok (n : Int)
    | none => .error .notANumber

/-- The profile names of R59. -/
def profileOf (name : List Char) : Except AsmError Config.Profile :=
  if name = "RH12_T14".toList then .ok .rh12t14
  else if name = "RH8_T12".toList then .ok .rh8t12
  else if name = "RH10_T13".toList then .ok .rh10t13
  else if name = "RH11_T11".toList then .ok .rh11t11
  else .error .unknownProfile

/-- A line of one numeric operand. -/
def lineOf1 (f : Int → SourceLine) : List (List Char) → Except AsmError SourceLine
  | [a] => (numberOf a).map f
  | _ => .error .wrongOperandCount

/-- A line of two numeric operands. -/
def lineOf2 (f : Int → Int → SourceLine) : List (List Char) → Except AsmError SourceLine
  | [a, b] => (numberOf a).bind (fun x => (numberOf b).map (f x))
  | _ => .error .wrongOperandCount

/-- A line of three numeric operands. -/
def lineOf3 (f : Int → Int → Int → SourceLine) : List (List Char) → Except AsmError SourceLine
  | [a, b, c] => (numberOf a).bind (fun x => (numberOf b).bind (fun y => (numberOf c).map (f x y)))
  | _ => .error .wrongOperandCount

/-- A SETRES line: a number and a profile name (R59). -/
def lineOfSetres : List (List Char) → Except AsmError SourceLine
  | [a, b] => (numberOf a).bind (fun x => (profileOf b).map (SourceLine.setres x))
  | _ => .error .wrongOperandCount

/-- The line of a mnemonic and its operands (the forms of R58 and R59). -/
def lineOf (mnemonic : List Char) (operands : List (List Char)) : Except AsmError SourceLine :=
  if mnemonic = "CRCGEN".toList then lineOf1 .crcgen operands
  else if mnemonic = "CRCCHK".toList then lineOf2 .crcchk operands
  else if mnemonic = "REGMERGE".toList then lineOf2 .regmerge operands
  else if mnemonic = "EXTRACT".toList then lineOf1 .extract operands
  else if mnemonic = "CONVT".toList then lineOf1 .convt operands
  else if mnemonic = "CONVRH".toList then lineOf1 .convrh operands
  else if mnemonic = "MEAST".toList then lineOf3 .meast operands
  else if mnemonic = "MEASRH".toList then lineOf3 .measrh operands
  else if mnemonic = ".cmd".toList then lineOf1 .cmd operands
  else if mnemonic = "VERIFY".toList then lineOf3 .verify operands
  else if mnemonic = "SETRES".toList then lineOfSetres operands
  else .error .unknownMnemonic

/-- One line of text: a mnemonic, then operands separated by commas (R58); `none` for a line that holds only blanks
and a comment. -/
def parseLine (text : List Char) : Except AsmError (Option SourceLine) :=
  let body := trimBlanks (stripComment text)
  if body = [] then .ok none
  else
    let mnemonic := body.takeWhile (fun c => !isBlank c)
    let rest := trimBlanks (body.dropWhile (fun c => !isBlank c))
    let operands := if rest = [] then [] else (splitCommas rest).map trimBlanks
    (lineOf mnemonic operands).map some

/-- One line of text to its word. -/
def assembleText (text : List Char) : Except AsmError (Option CmdWord) :=
  match parseLine text with
  | .error e => .error e
  | .ok none => .ok none
  | .ok (some l) => (assemble l).map some

end Sys2Proof
end

