-- ==== Sys2Proof/Safety.lean ====
section
/-! DEFINITION. The terms claims about runs use: accepting and completing edges, and what every state of an operating
block satisfies. -/

namespace Sys2Proof.Machine

/-- `k` edges, the last one after the others, stopping at the first that has no next state. -/
def runEdges : Nat → State → Host.Outcome State Fault Refusal
  | 0, s => .next s
  | k + 1, s =>
    match runEdges k s with
    | .next t => step t
    | .fault r => .fault r
    | .refused r => .refused r

/-- The coming edge is the accepting edge of `w` (R105): `rst == 0`, `phase == IDLE`, `cmd_valid == 1` in the cycle
before it, of a block that has been reset. -/
structure State.Accepting (s : State) (w : CmdWord) : Prop where
  operating : s.power = .operating
  idle : s.phase = .idle
  noReset : s.pins.rst = .low
  offered : s.pins.cmdValid = .high
  word : s.pins.cmd = .word w

/-- The coming edge is the last BUSY edge of the pending word `w` (R104). -/
structure State.Finishing (s : State) (w : CmdWord) : Prop where
  operating : s.power = .operating
  busy : s.phase = .busy
  noReset : s.pins.rst = .low
  last : s.cnt = 1
  word : s.pend = w

/-- The coming edge is the completing edge of `w` (R104): the accepting edge itself when `LAT == 1`, else the last BUSY
edge. -/
def State.Completing (s : State) (w : CmdWord) : Prop := (s.Accepting w ∧ s.params.lat = 1) ∨ s.Finishing w

/-- `op` selects no command (R54, R56). -/
def reservedOpcode (op : Byte) : Prop := op = 0x00#8 ∨ 0x09#8 ≤ op

/-- What holds between the result registers after any command or reset (R23, R68, R72, R79, R84, R85, R89, R90). -/
structure Results.Consistent (r : Results) : Prop where
  /-- Code 3 is never written (R89, U5). -/
  errCode : r.rErr ≠ 3#2
  /-- `R_RAW` is a masked reading (R23, R72). -/
  masked : r.rRaw &&& Config.maskStat = 0#16
  /-- A good verdict leaves no remainder and no error (R63, R84). -/
  okRemainder : r.rOk = 1#1 → r.rRem = 0x00#8 ∧ r.rErr = 0#2
  /-- What a failed measurement leaves (R85). -/
  failed : r.rErr = 1#2 →
    (r.rLastOp = 0x07#8 ∨ r.rLastOp = 0x08#8) ∧ r.rOk = 0#1 ∧ r.rRem ≠ 0x00#8 ∧ r.rRaw = 0#16 ∧ r.rStat = 0#2 ∧
      r.rRes = Config.sentRes ∧ r.rCenti = int32 Config.sentCenti ∧ r.rReg = 0#8
  /-- What a reserved opcode leaves (R90). -/
  illegal : r.rErr = 2#2 → reservedOpcode r.rLastOp ∧ r = { Results.zero with rErr := 2#2, rLastOp := r.rLastOp }
  /-- Without an error `R_CENTI` is `R_RES` shifted right by 16, arithmetically (R79). -/
  centi : r.rErr = 0#2 → r.rCenti = r.rRes.sshiftRight 16
  /-- Only REGMERGE fills `R_REG` (R23). -/
  regByMerge : r.rReg ≠ 0x00#8 → r.rLastOp = 0x03#8

/-- The results are those of reset or of one completed word alone (R24, R45). -/
def Results.OfOneWord (r : Results) : Prop :=
  r = Results.zero ∨ ∃ w t, completeWord w State.reset = .next t ∧ t.results = r

/-- What every state of an operating block satisfies (R32, R104, R107): an idle block counts nothing; a busy one has 1
to `LAT - 1` edges left and pulses no `done`. Nothing is said of an unreset block (R109). -/
structure State.Sequenced (s : State) : Prop where
  idleCount : s.power = .operating → s.phase = .idle → s.cnt = 0
  busyCount : s.power = .operating → s.phase = .busy → 1 ≤ s.cnt ∧ s.cnt + 1 ≤ s.params.lat
  busyQuiet : s.power = .operating → s.phase = .busy → s.done = 0#1

/-- The block's invariant. -/
structure State.Inv (s : State) : Prop where
  sequenced : s.Sequenced
  consistent : s.power = .operating → s.results.Consistent

end Sys2Proof.Machine
end

