-- ==== Sys2Proof/Certificates/Slice0/Obligations.lean ====
section
/-! DEFINITION. The statements about the block, one per definition; each docstring names the rule it formalises. -/

open Sys2Proof Sys2Proof.Machine

/-! ### Encoding (spec/30_encoding.md, spec/20_memory.md) -/

/-- R50, R53, R54, R58: a command's word decodes to it, whatever stands in the bits it ignores. -/
def Obligations.EncodedCommandsDecodeToThemselves : Prop :=
  ∀ (i : Instr) (x : CmdWord), decode (encode i ||| (x &&& ~~~i.usedBits)) = .command i

/-- R53, R54: a decoded command's encoding is the word it came from with the ignored bits cleared. -/
def Obligations.DecodedWordsEncodeBackUpToIgnoredBits : Prop :=
  ∀ (w : CmdWord) (i : Instr), decode w = .command i → encode i = w &&& i.usedBits

/-- R55: every word is one of the eight commands or reserved, from `OP` alone; no operand is illegal. -/
def Obligations.DecodingIsTotalFromTheOpcodeAlone : Prop :=
  (∀ w : CmdWord,
    (reservedOpcode (opOf w) ∧ decode w = .reserved (opOf w)) ∨
    (¬ reservedOpcode (opOf w) ∧ ∃ i, decode w = .command i ∧ i.opcode = opOf w ∧ i.wellFormed = true)) ∧
  (∀ (w w' : CmdWord) (i i' : Instr), decode w = .command i → decode w' = .command i' → opOf w = opOf w' →
    i.opcode = i'.opcode)

/-- R54: words written out from the field patterns decode to their commands. -/
def Obligations.SampleWordsDecodeAsTheOpcodeMapSays : Prop :=
  decode 0x0112347CBA55#48 = .command (.crcgen 0x7CBA#16) ∧
  decode 0x02FFFF7CBAEB#48 = .command (.crcchk 0x7CBA#16 0xEB#8) ∧
  decode 0x03813A000000#48 = .command (.regmerge 0x3A#8 0x81#8) ∧
  decode 0x0400007CBA00#48 = .command (.extract 0x7CBA#16) ∧
  decode 0x0500007CBAFF#48 = .command (.convt 0x7CBA#16) ∧
  decode 0x0600007CBA00#48 = .command (.convrh 0x7CBA#16) ∧
  decode 0x0700007CBAEB#48 = .command (.meast 0x7C#8 0xBA#8 0xEB#8) ∧
  decode 0x080000683A7C#48 = .command (.measrh 0x68#8 0x3A#8 0x7C#8) ∧
  decode 0x000000000000#48 = .reserved 0x00#8 ∧
  decode 0x097FFFFFFFFF#48 = .reserved 0x09#8

/-- R38: a word written as bytes is big-endian, the opcode byte first; R57: nothing but six bytes is a word. -/
def Obligations.CommandBytesAreBigEndian : Prop :=
  (∀ b0 b1 b2 b3 b4 b5 : Byte, ∃ w, wordOfBytes [b0, b1, b2, b3, b4, b5] = .ok w ∧
    opOf w = b0 ∧ w.extractLsb' 40 8 = b0 ∧ w.extractLsb' 32 8 = b1 ∧ w.extractLsb' 24 8 = b2 ∧
    w.extractLsb' 16 8 = b3 ∧ w.extractLsb' 8 8 = b4 ∧ w.extractLsb' 0 8 = b5) ∧
  (∀ w : CmdWord, wordOfBytes (bytesOfWord w) = .ok w) ∧
  (∀ bytes : List Byte, bytes.length ≠ 6 → wordOfBytes bytes = .error (.wrongLength bytes.length))

/-- R37, R51: the wire bytes of a measurement stand big-endian in A, and A's value16 is byte0 over byte1. -/
def Obligations.MeasurementBytesStandBigEndianInOperandA : Prop :=
  ∀ b0 b1 b2 : Byte,
    operandA (encode (.meast b0 b1 b2)) = b0 ++ b1 ++ b2 ∧ operandA (encode (.measrh b0 b1 b2)) = b0 ++ b1 ++ b2 ∧
    (value16Of (b0 ++ b1 ++ b2)).toNat = b0.toNat * 256 + b1.toNat ∧ checksum8Of (b0 ++ b1 ++ b2) = b2 ∧
    (b0 ++ b1 ++ b2).toNat = b0.toNat * 65536 + b1.toNat * 256 + b2.toNat

/-- R58: the word of each assembler form by its fields for every operand that fits, and the refusal of every operand that
does not: negative, or above 0xFFFF (`v16`, `raw16`), 0xFF (`c8`, `old8`, `bits8`, `b0`, `b1`, `b2`) or 2^48-1 (`w48`),
whatever the line's other operands are; the lines of R59 included. -/
def Obligations.AssemblerFormsGiveTheirFields : Prop :=
  (∀ v : Half, assemble (.crcgen v.toNat) = .ok (packWord 0x01#8 0#16 (v ++ 0x00#8))) ∧
  (∀ (v : Half) (c : Byte), assemble (.crcchk v.toNat c.toNat) = .ok (packWord 0x02#8 0#16 (v ++ c))) ∧
  (∀ old bits : Byte, assemble (.regmerge old.toNat bits.toNat) = .ok (packWord 0x03#8 (bits ++ old) 0#24)) ∧
  (∀ r : Half, assemble (.extract r.toNat) = .ok (packWord 0x04#8 0#16 (r ++ 0x00#8))) ∧
  (∀ r : Half, assemble (.convt r.toNat) = .ok (packWord 0x05#8 0#16 (r ++ 0x00#8))) ∧
  (∀ r : Half, assemble (.convrh r.toNat) = .ok (packWord 0x06#8 0#16 (r ++ 0x00#8))) ∧
  (∀ b0 b1 b2 : Byte, assemble (.meast b0.toNat b1.toNat b2.toNat) = .ok (packWord 0x07#8 0#16 (b0 ++ b1 ++ b2))) ∧
  (∀ b0 b1 b2 : Byte, assemble (.measrh b0.toNat b1.toNat b2.toNat) = .ok (packWord 0x08#8 0#16 (b0 ++ b1 ++ b2))) ∧
  (∀ w : CmdWord, assemble (.cmd w.toNat) = .ok w) ∧
  (∀ v16 : Int, v16 < 0 ∨ 0xFFFF < v16 → assemble (.crcgen v16) = .error .operandOutOfRange) ∧
  (∀ v16 c8 : Int, v16 < 0 ∨ 0xFFFF < v16 ∨ c8 < 0 ∨ 0xFF < c8 →
    assemble (.crcchk v16 c8) = .error .operandOutOfRange) ∧
  (∀ old8 bits8 : Int, old8 < 0 ∨ 0xFF < old8 ∨ bits8 < 0 ∨ 0xFF < bits8 →
    assemble (.regmerge old8 bits8) = .error .operandOutOfRange) ∧
  (∀ raw16 : Int, raw16 < 0 ∨ 0xFFFF < raw16 →
    assemble (.extract raw16) = .error .operandOutOfRange ∧ assemble (.convt raw16) = .error .operandOutOfRange ∧
    assemble (.convrh raw16) = .error .operandOutOfRange) ∧
  (∀ b0 b1 b2 : Int, b0 < 0 ∨ 0xFF < b0 ∨ b1 < 0 ∨ 0xFF < b1 ∨ b2 < 0 ∨ 0xFF < b2 →
    assemble (.meast b0 b1 b2) = .error .operandOutOfRange ∧ assemble (.measrh b0 b1 b2) = .error .operandOutOfRange ∧
    assemble (.verify b0 b1 b2) = .error .operandOutOfRange) ∧
  (∀ w48 : Int, w48 < 0 ∨ 2 ^ 48 - 1 < w48 → assemble (.cmd w48) = .error .operandOutOfRange) ∧
  (∀ (old8 : Int) (p : Config.Profile), old8 < 0 ∨ 0xFF < old8 →
    assemble (.setres old8 p) = .error .operandOutOfRange)

/-- R59: the two pseudo-instructions are their expansions, the four profile names give a SETRES line its profile, and the
assembler refuses a SETRES line with any other name, whatever stands as its first operand. -/
def Obligations.PseudoInstructionsAreTheirExpansions : Prop :=
  (∀ b0 b1 b2 : Byte, assemble (.verify b0.toNat b1.toNat b2.toNat) = assemble (.crcchk (b0 ++ b1).toNat b2.toNat)) ∧
  (∀ (old8 : Int) (p : Config.Profile),
    assemble (.setres old8 p) = assemble (.regmerge old8 p.registerBits.toNat)) ∧
  Config.Profile.rh12t14.registerBits = 0x00#8 ∧ Config.Profile.rh8t12.registerBits = 0x01#8 ∧
  Config.Profile.rh10t13.registerBits = 0x80#8 ∧ Config.Profile.rh11t11.registerBits = 0x81#8 ∧
  (∀ (number : List Char) (old8 : Int), numberOf number = .ok old8 →
    lineOf "SETRES".toList [number, "RH12_T14".toList] = .ok (.setres old8 .rh12t14) ∧
    lineOf "SETRES".toList [number, "RH8_T12".toList] = .ok (.setres old8 .rh8t12) ∧
    lineOf "SETRES".toList [number, "RH10_T13".toList] = .ok (.setres old8 .rh10t13) ∧
    lineOf "SETRES".toList [number, "RH11_T11".toList] = .ok (.setres old8 .rh11t11)) ∧
  (∀ (number name : List Char) (old8 : Int), numberOf number = .ok old8 →
    name ∉ ["RH12_T14".toList, "RH8_T12".toList, "RH10_T13".toList, "RH11_T11".toList] →
      lineOf "SETRES".toList [number, name] = .error .unknownProfile) ∧
  (∀ (number name : List Char) (l : SourceLine),
    name ∉ ["RH12_T14".toList, "RH8_T12".toList, "RH10_T13".toList, "RH11_T11".toList] →
      lineOf "SETRES".toList [number, name] ≠ .ok l) ∧
  (∀ (a b c : List Char) (b0 b1 b2 : Int), numberOf a = .ok b0 → numberOf b = .ok b1 → numberOf c = .ok b2 →
    lineOf "VERIFY".toList [a, b, c] = .ok (.verify b0 b1 b2))

/-! ### The checksum unit (spec/40_crc.md) -/

/-- R60: the divisor at iteration `i = 23 - k` is `0x988000 >> k`; its top set bit is bit `i`, its lowest bit `i - 8`. -/
def Obligations.DivisorSlidesWithTheIteration : Prop :=
  ∀ (w : Reading) (k : Nat), k < 16 →
    (div24After w k).2 = 0x988000#24 >>> k ∧
    (0x988000#24 >>> k).getLsbD (23 - k) = true ∧ (∀ j, 23 - k < j → (0x988000#24 >>> k).getLsbD j = false) ∧
    (0x988000#24 >>> k).getLsbD (15 - k) = true ∧ (∀ j, j < 15 - k → (0x988000#24 >>> k).getLsbD j = false)

/-- R61: the four properties of the division. -/
def Obligations.DivisionIsLinearAndClearsTheHighBits : Prop :=
  (∀ w : Reading, (div24 w).extractLsb' 8 16 = 0#16) ∧
  (∀ (w w' : Reading) (k : Nat), k < 16 → w.extractLsb' 8 16 = w'.extractLsb' 8 16 →
    (div24After w k).1.getLsbD (23 - k) = (div24After w' k).1.getLsbD (23 - k)) ∧
  (∀ (v : Half) (c : Byte), div24 (v ++ c) = (((div24 (v ++ 0x00#8)).extractLsb' 0 8) ^^^ c).setWidth 24) ∧
  (∀ w w' : Reading, div24 (w ^^^ w') = div24 w ^^^ div24 w') ∧ div24 0#24 = 0#24

/-- R63: a pair is valid exactly when its remainder is 0, which is when the check value is the checksum. -/
def Obligations.PairIsValidWhenTheCheckValueMatches : Prop :=
  ∀ (v : Half) (c : Byte), (valid v c = true ↔ div24 (v ++ c) = 0#24) ∧ (valid v c = true ↔ crc8 v = c)

/-- R64: the byte-serial form gives the same check value for every value. -/
def Obligations.ByteSerialFormIsTheCheckValue : Prop := ∀ v : Half, crc8Serial v = crc8 v

/-- R65: the check value computed for a value verifies with it, from any state; the verdict is a function of the pair. -/
def Obligations.ComputedCheckValueVerifies : Prop :=
  (∀ (v : Half) (s : State), ∃ t u, exec (.crcgen v) s = .next t ∧
    exec (.crcchk v t.results.rCrc) t = .next u ∧ u.results.rOk = 1#1) ∧
  (∀ (v : Half) (c : Byte) (s s' t t' : State), exec (.crcchk v c) s = .next t → exec (.crcchk v c) s' = .next t' →
    t.results.rOk = t'.results.rOk)

/-- R66: every change of one, two or three bits of a valid word is detected; the pattern 0x000131 is not. -/
def Obligations.ChangesOfUpToThreeBitsAreDetected : Prop :=
  (∀ (v : Half) (c : Byte) (i j k : Nat), i < 24 → j < 24 → k < 24 → valid v c = true →
    verdict ((v ++ c) ^^^ ((1#24 <<< i) ||| (1#24 <<< j) ||| (1#24 <<< k))) = false) ∧
  (∀ (v : Half) (c : Byte), valid v c = true → verdict ((v ++ c) ^^^ 0x000131#24) = true)

/-! ### The eight commands: result, completion and frame in one equation -/

/-- R67: CRCGEN. -/
def Obligations.CrcgenWritesTheCheckValue : Prop :=
  (∀ (v : Half) (s : State), exec (.crcgen v) s = .next { s with
    done := 1#1
    results :=
      { rLastOp := 0x01#8, rErr := 0#2, rOk := 0#1
        rCrc := (div24 (v ++ 0x00#8)).extractLsb' 0 8, rRem := (div24 (v ++ 0x00#8)).extractLsb' 0 8
        rRaw := 0#16, rStat := 0#2, rRes := 0#32, rCenti := 0#32, rReg := 0#8 } }) ∧
  (∀ w : CmdWord, opOf w = 0x01#8 → decode w = .command (.crcgen (w.extractLsb' 8 16))) ∧
  crc8 0x0000#16 = 0x00#8 ∧ crc8 0x7CBA#16 = 0xEB#8

/-- R68: CRCCHK. -/
def Obligations.CrcchkWritesTheVerdict : Prop :=
  (∀ (v : Half) (c : Byte) (s : State), exec (.crcchk v c) s = .next { s with
    done := 1#1
    results :=
      { rLastOp := 0x02#8, rErr := 0#2, rOk := if div24 (v ++ c) = 0#24 then 1#1 else 0#1
        rCrc := crc8 v, rRem := crc8 v ^^^ c
        rRaw := 0#16, rStat := 0#2, rRes := 0#32, rCenti := 0#32, rReg := 0#8 } }) ∧
  (∀ (v : Half) (c : Byte), div24 (v ++ c) = (crc8 v ^^^ c).setWidth 24) ∧
  (∀ w : CmdWord, opOf w = 0x02#8 → decode w = .command (.crcchk (w.extractLsb' 8 16) (w.extractLsb' 0 8))) ∧
  valid 0x0000#16 0x00#8 = true ∧ valid 0xFFFF#16 0x2D#8 = true ∧ valid 0x7CBA#16 0xEB#8 = true ∧
  valid 0x7CBA#16 0xEA#8 = false

/-- R74: REGMERGE. -/
def Obligations.RegmergeWritesTheMergedByte : Prop :=
  (∀ (old bits : Byte) (s : State), exec (.regmerge old bits) s = .next { s with
    done := 1#1
    results :=
      { rLastOp := 0x03#8, rErr := 0#2, rOk := 0#1, rCrc := 0#8, rRem := 0#8, rRaw := 0#16, rStat := 0#2
        rRes := 0#32, rCenti := 0#32, rReg := (old &&& 0x7E#8) ||| (bits &&& 0x81#8) } }) ∧
  (∀ w : CmdWord, opOf w = 0x03#8 → decode w = .command (.regmerge (w.extractLsb' 24 8) (w.extractLsb' 32 8))) ∧
  merge 0xFF#8 0x00#8 = 0x7E#8 ∧ merge 0x00#8 0xFF#8 = 0x81#8 ∧ merge 0x81#8 0x81#8 = 0x81#8 ∧
  merge 0x3A#8 0x81#8 = 0xBB#8

/-- R75: EXTRACT. -/
def Obligations.ExtractWritesDataAndStatusBits : Prop :=
  (∀ (r : Half) (s : State), exec (.extract r) s = .next { s with
    done := 1#1
    results :=
      { rLastOp := 0x04#8, rErr := 0#2, rOk := 0#1, rCrc := 0#8, rRem := 0#8
        rRaw := r &&& 0xFFFC#16, rStat := r.extractLsb' 0 2, rRes := 0#32, rCenti := 0#32, rReg := 0#8 } }) ∧
  (∀ w : CmdWord, opOf w = 0x04#8 → decode w = .command (.extract (w.extractLsb' 8 16))) ∧
  maskRaw 0x0003#16 = 0x0000#16 ∧ status 0x0003#16 = 0b11#2 ∧ maskRaw 0xFFFF#16 = 0xFFFC#16 ∧
  status 0xFFFF#16 = 0b11#2 ∧ status 0xFFFC#16 = 0b00#2 ∧ maskRaw 0x7CBA#16 = 0x7CB8#16 ∧ status 0x7CBA#16 = 0b10#2

/-- R82: CONVT. `m` is the masked reading; Lean's `/` on `Int` with a positive divisor is the floor. -/
def Obligations.ConvtWritesTheTemperature : Prop :=
  (∀ (r m : Half) (s : State), m = r &&& 0xFFFC#16 → exec (.convt r) s = .next { s with
    done := 1#1
    results :=
      { rLastOp := 0x05#8, rErr := 0#2, rOk := 0#1, rCrc := 0#8, rRem := 0#8, rRaw := m, rStat := r.extractLsb' 0 2
        rRes := BitVec.ofInt 32 (17572 * (m.toNat : Int) - 307036160)
        rCenti := BitVec.ofInt 32 ((17572 * (m.toNat : Int) - 307036160) / 65536), rReg := 0#8 } }) ∧
  (∀ w : CmdWord, opOf w = 0x05#8 → decode w = .command (.convt (w.extractLsb' 8 16))) ∧
  tnum 0x0000#16 = -307036160 ∧ centi (tnum 0x0000#16) = -4685 ∧ tnum 0xFFFC#16 = 844492144 ∧
  centi (tnum 0xFFFC#16) = 12885 ∧ centi (tnum 0x0004#16) = -4684 ∧ tnum 0x7CB8#16 = 254002656 ∧
  centi (tnum 0x7CB8#16) = 3875

/-- R83: CONVRH. -/
def Obligations.ConvrhWritesTheHumidity : Prop :=
  (∀ (r m : Half) (s : State), m = r &&& 0xFFFC#16 → exec (.convrh r) s = .next { s with
    done := 1#1
    results :=
      { rLastOp := 0x06#8, rErr := 0#2, rOk := 0#1, rCrc := 0#8, rRem := 0#8, rRaw := m, rStat := r.extractLsb' 0 2
        rRes := BitVec.ofInt 32 (12500 * (m.toNat : Int) - 39321600)
        rCenti := BitVec.ofInt 32 ((12500 * (m.toNat : Int) - 39321600) / 65536), rReg := 0#8 } }) ∧
  (∀ w : CmdWord, opOf w = 0x06#8 → decode w = .command (.convrh (w.extractLsb' 8 16))) ∧
  hnum 0x0000#16 = -39321600 ∧ centi (hnum 0x0000#16) = -600 ∧ hnum 0xFFFC#16 = 779828400 ∧
  centi (hnum 0xFFFC#16) = 11899 ∧ hnum 0x0004#16 = -39271600 ∧ centi (hnum 0x0004#16) = -600 ∧
  hnum 0x8000#16 = 370278400 ∧ centi (hnum 0x8000#16) = 5650 ∧ hnum 0x7CB8#16 = 359778400 ∧
  centi (hnum 0x7CB8#16) = 5489

/-- R87: MEAST, verified and failed; every single-bit change of a valid reading fails it. -/
def Obligations.MeastVerifiesThenConverts : Prop :=
  (∀ (b0 b1 b2 : Byte) (m : Half) (s : State), div24 (b0 ++ b1 ++ b2) = 0#24 → m = (b0 ++ b1) &&& 0xFFFC#16 →
    exec (.meast b0 b1 b2) s = .next { s with
      done := 1#1
      results :=
        { rLastOp := 0x07#8, rErr := 0#2, rOk := 1#1, rCrc := crc8 (b0 ++ b1), rRem := 0#8, rRaw := m
          rStat := (b0 ++ b1).extractLsb' 0 2
          rRes := BitVec.ofInt 32 (17572 * (m.toNat : Int) - 307036160)
          rCenti := BitVec.ofInt 32 ((17572 * (m.toNat : Int) - 307036160) / 65536), rReg := 0#8 } }) ∧
  (∀ (b0 b1 b2 : Byte) (s : State), div24 (b0 ++ b1 ++ b2) ≠ 0#24 → exec (.meast b0 b1 b2) s = .next { s with
    done := 1#1
    results :=
      { rLastOp := 0x07#8, rErr := 1#2, rOk := 0#1, rCrc := crc8 (b0 ++ b1), rRem := crc8 (b0 ++ b1) ^^^ b2
        rRaw := 0#16, rStat := 0#2, rRes := 0x7FFFFFFF#32, rCenti := 99900#32, rReg := 0#8 } }) ∧
  (∀ w : CmdWord, opOf w = 0x07#8 →
    decode w = .command (.meast (w.extractLsb' 16 8) (w.extractLsb' 8 8) (w.extractLsb' 0 8))) ∧
  (∀ (b0 b1 b2 c0 c1 c2 : Byte) (k : Nat) (s : State), k < 24 → div24 (b0 ++ b1 ++ b2) = 0#24 →
    c0 ++ c1 ++ c2 = (b0 ++ b1 ++ b2) ^^^ (1#24 <<< k) →
    ∃ t, exec (.meast c0 c1 c2) s = .next t ∧ t.results.rErr = 1#2) ∧
  div24 0x000000#24 = 0#24 ∧ div24 0x7CBAEB#24 = 0#24

/-- R88: MEASRH, verified and failed. -/
def Obligations.MeasrhVerifiesThenConverts : Prop :=
  (∀ (b0 b1 b2 : Byte) (m : Half) (s : State), div24 (b0 ++ b1 ++ b2) = 0#24 → m = (b0 ++ b1) &&& 0xFFFC#16 →
    exec (.measrh b0 b1 b2) s = .next { s with
      done := 1#1
      results :=
        { rLastOp := 0x08#8, rErr := 0#2, rOk := 1#1, rCrc := crc8 (b0 ++ b1), rRem := 0#8, rRaw := m
          rStat := (b0 ++ b1).extractLsb' 0 2
          rRes := BitVec.ofInt 32 (12500 * (m.toNat : Int) - 39321600)
          rCenti := BitVec.ofInt 32 ((12500 * (m.toNat : Int) - 39321600) / 65536), rReg := 0#8 } }) ∧
  (∀ (b0 b1 b2 : Byte) (s : State), div24 (b0 ++ b1 ++ b2) ≠ 0#24 → exec (.measrh b0 b1 b2) s = .next { s with
    done := 1#1
    results :=
      { rLastOp := 0x08#8, rErr := 1#2, rOk := 0#1, rCrc := crc8 (b0 ++ b1), rRem := crc8 (b0 ++ b1) ^^^ b2
        rRaw := 0#16, rStat := 0#2, rRes := 0x7FFFFFFF#32, rCenti := 99900#32, rReg := 0#8 } }) ∧
  (∀ w : CmdWord, opOf w = 0x08#8 →
    decode w = .command (.measrh (w.extractLsb' 16 8) (w.extractLsb' 8 8) (w.extractLsb' 0 8))) ∧
  div24 0x000000#24 = 0#24 ∧ div24 0xFFFC7E#24 = 0#24 ∧ div24 0x7CBAEB#24 = 0#24 ∧ div24 0x7CBAEA#24 ≠ 0#24

/-- R90: a reserved opcode completes like any other command, with ILLEGAL_OP and its opcode byte, and leaves the block
idle with `done` pulsed, as any completing edge does. -/
def Obligations.ReservedOpcodesCompleteWithIllegalOp : Prop :=
  (∀ (w : CmdWord) (s : State), reservedOpcode (w.extractLsb' 40 8) → completeWord w s = .next { s with
    done := 1#1
    results :=
      { rLastOp := w.extractLsb' 40 8, rErr := 2#2, rOk := 0#1, rCrc := 0#8, rRem := 0#8, rRaw := 0#16, rStat := 0#2
        rRes := 0#32, rCenti := 0#32, rReg := 0#8 } }) ∧
  (∀ (w : CmdWord) (s : State), reservedOpcode (w.extractLsb' 40 8) → s.Accepting w → s.params.lat ≠ 1 →
    ∃ t, step s = .next t ∧ t.phase = .busy ∧ t.pend = w ∧ t.cnt = s.params.lat - 1) ∧
  (∀ (w : CmdWord) (s : State), reservedOpcode (w.extractLsb' 40 8) → s.Completing w →
    ∃ t, step s = .next t ∧ t.done = 1#1 ∧ t.phase = .idle ∧ t.results.rErr = 2#2 ∧
      t.results.rLastOp = w.extractLsb' 40 8)

/-! ### What holds of every completion -/

/-- R24, R25: the whole result set is a function of the word alone, and a completion touches nothing but the results
and `done`. -/
def Obligations.ResultSetIsAFunctionOfTheWord : Prop :=
  ∀ w : CmdWord, ∃ r : Results, ∀ s : State, completeWord w s = .next { s with results := r, done := 1#1 }

/-- R89: each error code arises from its cause alone and records what the table says. -/
def Obligations.ErrorCodesAriseFromTheirCauses : Prop :=
  ∀ (w : CmdWord) (s t : State), completeWord w s = .next t →
    t.results.rLastOp = opOf w ∧ t.results.rErr ≠ 3#2 ∧
    (t.results.rErr = 1#2 ↔ (opOf w = 0x07#8 ∨ opOf w = 0x08#8) ∧ div24 (operandA w) ≠ 0#24) ∧
    (t.results.rErr = 2#2 ↔ reservedOpcode (opOf w)) ∧
    (t.results.rErr = 1#2 →
      t.results.rCrc = crc8 (value16Of (operandA w)) ∧
      t.results.rRem = crc8 (value16Of (operandA w)) ^^^ checksum8Of (operandA w) ∧
      t.results.rRes = 0x7FFFFFFF#32 ∧ t.results.rCenti = 99900#32)

/-- R85: a failed measurement reports itself twice, and no valid reading gives either sentinel. -/
def Obligations.SentinelsAreNeverAReading : Prop :=
  ∀ (b0 b1 b2 : Byte) (s : State) (i : Instr), i = .meast b0 b1 b2 ∨ i = .measrh b0 b1 b2 →
    ∃ t, exec i s = .next t ∧
      (crc8 (b0 ++ b1) ≠ b2 →
        t.results.rErr = 1#2 ∧ t.results.rOk = 0#1 ∧ t.results.rCenti = 99900#32 ∧ t.results.rRes = 0x7FFFFFFF#32 ∧
        t.results.rRaw = 0#16 ∧ t.results.rStat = 0#2 ∧ t.results.rCrc = crc8 (b0 ++ b1) ∧
        t.results.rRem = crc8 (b0 ++ b1) ^^^ b2) ∧
      (crc8 (b0 ++ b1) = b2 →
        t.results.rErr = 0#2 ∧ t.results.rOk = 1#1 ∧ t.results.rCenti ≠ 99900#32 ∧ t.results.rRes ≠ 0x7FFFFFFF#32)

/-- R73: a measurement verifies the unmasked word: with a checksum that fits the masked value only, it fails. -/
def Obligations.VerificationPrecedesMasking : Prop :=
  ∀ (b0 b1 b2 : Byte) (s : State) (i : Instr), i = .meast b0 b1 b2 ∨ i = .measrh b0 b1 b2 →
    status (b0 ++ b1) ≠ 0#2 → valid (maskRaw (b0 ++ b1)) b2 = true →
    ∃ t, exec i s = .next t ∧ t.results.rErr = 1#2 ∧ t.results.rOk = 0#1

/-- R34: a block with `R_LASTOP` 0 and `R_ERR` 0 has completed no command since reset. -/
def Obligations.CompletedCommandsAreToldFromReset : Prop :=
  ∀ (w : CmdWord) (s t : State), completeWord w s = .next t → ¬ (t.results.rLastOp = 0x00#8 ∧ t.results.rErr = 0#2)

/-! ### Bit fields (spec/41_bitfield.md) -/

/-- R71: the merge takes the resolution bits of one byte and the other bits of the other; it is idempotent; its
resolution bits are always some profile's. -/
def Obligations.MergeTakesResolutionBitsOnly : Prop :=
  ∀ old bits : Byte,
    merge old bits &&& 0x81#8 = bits &&& 0x81#8 ∧ merge old bits &&& 0x7E#8 = old &&& 0x7E#8 ∧
    merge (merge old bits) bits = merge old bits ∧
    ∃ p : Config.Profile, merge old bits &&& 0x81#8 = p.registerBits

/-- R72: a reading is its data bits and its status bits. -/
def Obligations.ReadingIsDataBitsAndStatusBits : Prop :=
  ∀ r : Half, maskRaw r = r &&& 0xFFFC#16 ∧ status r = r.extractLsb' 0 2 ∧ r = maskRaw r ||| (status r).setWidth 16

/-- The two low bits of a reading never influence a conversion (41_bitfield.md R72, 42_convert.md R82, R83). -/
def Obligations.StatusBitsNeverInfluenceAConversion : Prop :=
  ∀ (r r' : Half) (s : State), r &&& 0xFFFC#16 = r' &&& 0xFFFC#16 →
    (∃ t t', exec (.convt r) s = .next t ∧ exec (.convt r') s = .next t' ∧
      t' = { t with results := { t.results with rStat := r'.extractLsb' 0 2 } }) ∧
    (∃ t t', exec (.convrh r) s = .next t ∧ exec (.convrh r') s = .next t' ∧
      t' = { t with results := { t.results with rStat := r'.extractLsb' 0 2 } })

/-! ### Conversion (spec/42_convert.md) -/

/-- R76: the temperature in exact units is the document's formula, exactly. -/
def Obligations.TemperatureIsTheFormulaExactly : Prop :=
  ∀ m : Half, tnum m = 17572 * (m.toNat : Int) - 307036160 ∧
    (tnum m : ℚ) / 6553600 = -46.85 + 175.72 * ((m.toNat : ℚ) / 65536)

/-- R77: the relative humidity in exact units is the document's formula, exactly. -/
def Obligations.HumidityIsTheFormulaExactly : Prop :=
  ∀ m : Half, hnum m = 12500 * (m.toNat : Int) - 39321600 ∧
    (hnum m : ℚ) / 6553600 = -6 + 125 * ((m.toNat : ℚ) / 65536)

/-- R78: every conversion lies in its range and in 32 bits, so `int32` never wraps. -/
def Obligations.ConversionsNeverOverflow : Prop :=
  (∀ m : Half, -307036160 ≤ tnum m ∧ tnum m ≤ 844544860 ∧ -39321600 ≤ hnum m ∧ hnum m ≤ 779865900 ∧
    (int32 (tnum m)).toInt = tnum m ∧ (int32 (hnum m)).toInt = hnum m) ∧
  (∀ r : Half, tnum (maskRaw r) ≤ 844492144 ∧ hnum (maskRaw r) ≤ 779828400) ∧
  (∀ m m' : Half, m'.toNat = m.toNat + 1 → tnum m' - tnum m = 17572 ∧ hnum m' - hnum m = 12500) ∧
  (∀ m m' : Half, m'.toNat = m.toNat + 4 → tnum m' - tnum m = 70288 ∧ hnum m' - hnum m = 50000)

/-- R79: centi rounding is the floor, the arithmetic shift, and at most one centi unit below the exact value. -/
def Obligations.CentiRoundsTowardMinusInfinity : Prop :=
  ∀ n : Int, -2147483648 ≤ n → n ≤ 2147483647 →
    centi n = ⌊(n : ℚ) / 65536⌋ ∧ int32 (centi n) = (int32 n).sshiftRight 16 ∧
    0 ≤ (n : ℚ) / 65536 - centi n ∧ (n : ℚ) / 65536 - centi n < 1

/-- R80: the centi ranges over masked readings, with both ends reached; no clamping. -/
def Obligations.CentiRangesAreNotClamped : Prop :=
  (∀ r : Half, -4685 ≤ centi (tnum (maskRaw r)) ∧ centi (tnum (maskRaw r)) ≤ 12885 ∧
    -600 ≤ centi (hnum (maskRaw r)) ∧ centi (hnum (maskRaw r)) ≤ 11899) ∧
  centi (tnum 0x0000#16) = -4685 ∧ centi (tnum 0xFFFC#16) = 12885 ∧ centi (hnum 0x0000#16) = -600 ∧
  centi (hnum 0xFFFC#16) = 11899

/-! ### The clock edge (spec/70_reset_and_hazards.md) -/

/-- R104: a step at a completing edge is `exec` of the decoded command (or the reserved opcode's completion), after the
cycle's inputs are spent and `done` is cleared, and, from BUSY, with `phase` IDLE and `cnt` 0. That a cycle's inputs are
the head of a list is the model's own (log 1); the order of the writes is its inference (log 9). -/
def Obligations.StepRunsTheDecodedCommand : Prop :=
  (∀ (s : State) (w : CmdWord) (i : Instr), s.Accepting w → s.params.lat = 1 → decode w = .command i →
    step s = exec i { s with inputs := s.inputs.tail, done := 0#1 }) ∧
  (∀ (s : State) (w : CmdWord) (i : Instr), s.Finishing w → decode w = .command i →
    step s = exec i { s with inputs := s.inputs.tail, done := 0#1, phase := .idle, cnt := 0 }) ∧
  (∀ (s : State) (w : CmdWord) (op : Byte), s.Accepting w → s.params.lat = 1 → decode w = .reserved op →
    step s = execReserved op { s with inputs := s.inputs.tail, done := 0#1 }) ∧
  (∀ (s : State) (w : CmdWord) (op : Byte), s.Finishing w → decode w = .reserved op →
    step s = execReserved op { s with inputs := s.inputs.tail, done := 0#1, phase := .idle, cnt := 0 })

/-- A word placed for the next step runs in it, from every state and at every `LAT` (the host's fetch interface; log 6,
the model's own). -/
def Obligations.PlacedWordRunsInTheNextStep : Prop :=
  ∀ (s : State) (n : Nat) (i : Instr), n < 2 ^ 48 → decode (BitVec.ofNat 48 n) = .command i →
    ∃ t, step (s.withFetchWord 48 n) = exec i t ∧ t.results = s.results ∧ t.params = s.params ∧ t.inputs = s.inputs

/-- R104: every branch of the cycle rule of an operating block. The list of inputs is the model's own (log 1). -/
def Obligations.ClockEdgeFollowsTheCycleRule : Prop :=
  ∀ s : State, s.power = .operating →
    (s.pins.rst = .high → step s = .next { s with
      inputs := s.inputs.tail, results := Results.zero, done := 0#1, phase := .idle, cnt := 0, pend := 0#48 }) ∧
    (s.pins.rst = .low → s.phase = .idle → s.pins.cmdValid = .low →
      step s = .next { s with inputs := s.inputs.tail, done := 0#1 }) ∧
    (∀ w, s.Accepting w → s.params.lat = 1 → step s = completeWord w { s with inputs := s.inputs.tail, done := 0#1 }) ∧
    (∀ w, s.Accepting w → s.params.lat ≠ 1 → step s = .next { s with
      inputs := s.inputs.tail, done := 0#1, pend := w, cnt := s.params.lat - 1, phase := .busy }) ∧
    (s.pins.rst = .low → s.phase = .busy → s.cnt = 1 → step s = completeWord s.pend { s with
      inputs := s.inputs.tail, done := 0#1, phase := .idle, cnt := 0 }) ∧
    (s.pins.rst = .low → s.phase = .busy → s.cnt ≠ 1 → step s = .next { s with
      inputs := s.inputs.tail, done := 0#1, cnt := s.cnt - 1 })

/-- R34, R108: at an edge with `rst == 1` every piece of state takes its reset value, whatever the phase and whatever is
offered; no result is written, no `done` follows, and an operating block is not ready in that cycle. -/
def Obligations.ResetWinsAtEveryEdge : Prop :=
  ∀ s : State, s.pins.rst = .high →
    (∃ t, step s = .next t ∧ t.power = .operating ∧ t.results.rLastOp = 0x00#8 ∧ t.results.rErr = 0#2 ∧
      t.results.rOk = 0#1 ∧ t.results.rCrc = 0x00#8 ∧ t.results.rRem = 0x00#8 ∧ t.results.rRaw = 0x0000#16 ∧
      t.results.rStat = 0b00#2 ∧ t.results.rRes = 0x00000000#32 ∧ t.results.rCenti = 0x00000000#32 ∧
      t.results.rReg = 0x00#8 ∧ t.phase = .idle ∧ t.cnt = 0 ∧ t.pend = 0x000000000000#48 ∧ t.done = 0#1) ∧
    (s.power = .operating → s.cmdReady = .low)

/-- R110: one reset edge makes the block ready, with every result register at its reset value, from any state. -/
def Obligations.OneResetEdgeMakesTheBlockReady : Prop :=
  ∀ s : State, s.pins.rst = .high → ∃ t, step s = .next t ∧
    (t.pins.rst = .low → t.outputs = { results := Results.zero, cmdReady := .high, done := 0#1 })

/-- R105: except at an edge of an idle, operating block with `rst == 0` the offer is not read; nor is `cmd` when
`cmd_valid` is 0. That an unreset block reads no offer is the model's own, not R105's (log 3, log 7: R109 leaves it
unspecified), and so is the list of inputs (log 1). -/
def Obligations.OffersAreReadOnlyWhenReady : Prop :=
  ∀ (s : State) (p q : Pins) (rest : List Pins), p.rst = q.rst →
    (p.rst ≠ .low ∨ s.power = .unreset ∨ s.phase = .busy ∨ (p.cmdValid = .low ∧ q.cmdValid = .low)) →
    step { s with inputs := p :: rest } = step { s with inputs := q :: rest }

/-- R22: the output ports of an operating block. -/
def Obligations.OutputPortsFollowTheState : Prop :=
  ∀ s : State,
    s.outputs.results = s.results ∧ s.outputs.done = s.done ∧
    (s.power = .operating → (s.outputs.cmdReady = .high ↔ s.phase = .idle ∧ s.pins.rst = .low)) ∧
    (s.power = .operating → s.pins.rst ≠ .unknown →
      (s.outputs.cmdReady = .low ↔ ¬ (s.phase = .idle ∧ s.pins.rst = .low)))

/-- R107: `done` is 1 in exactly the cycle after each completing edge. -/
def Obligations.DonePulsesAfterEachCompletingEdge : Prop :=
  ∀ s t : State, s.power = .operating → step s = .next t → (t.done = 1#1 ↔ ∃ w, s.Completing w)

/-- R42, R112: the results change at a completing edge or a reset edge and at no other. -/
def Obligations.ResultsHoldBetweenCompletions : Prop :=
  ∀ s t : State, s.power = .operating → step s = .next t → s.pins.rst ≠ .high → (¬ ∃ w, s.Completing w) →
    t.results = s.results

/-- R45, R92: after a completing edge the results are those of its own word alone; without reset, it does complete. -/
def Obligations.CompletingEdgeWritesItsOwnWord : Prop :=
  ∀ (s : State) (w : CmdWord), s.Completing w →
    ∃ t u, step s = .next t ∧ completeWord w State.reset = .next u ∧ t.results = u.results ∧ t.done = 1#1 ∧
      t.phase = .idle

/-- R104, R106, R111, R115: a word accepted at an edge completes `LAT - 1` edges later if no reset comes, whatever is
offered meanwhile; until then the block is busy and not ready, and the results hold. That the host drives `rst = 0` past
the end of `inputs` is the model's own (log 1). -/
def Obligations.AcceptedWordCompletesAfterLatEdges : Prop :=
  ∀ (s : State) (w : CmdWord), s.Accepting w →
    (∀ p ∈ (s.inputs.drop 1).take (s.params.lat - 1), p.rst = .low) →
    (runEdges s.params.lat s = completeWord w { s with
      inputs := s.inputs.drop s.params.lat
      cnt := if s.params.lat = 1 then s.cnt else 0
      pend := if s.params.lat = 1 then s.pend else w }) ∧
    (∀ k, 1 ≤ k → k < s.params.lat → ∃ t : State, runEdges k s = .next t ∧
      t.phase = .busy ∧ t.cnt = s.params.lat - k ∧ t.pend = w ∧ t.results = s.results ∧ t.done = 0#1 ∧
      t.cmdReady = .low)

/-- R113: with `LAT == 1` commands go back to back, each accepted and completed at its own edge. The list of inputs is
the model's own (log 1). -/
def Obligations.BackToBackCommandsWithUnitLatency : Prop :=
  ∀ (s : State) (w w' : CmdWord) (rest : List Pins), s.power = .operating → s.phase = .idle → s.params.lat = 1 →
    s.inputs = Pins.offer w :: Pins.offer w' :: rest →
    ∃ t u : State, runEdges 1 s = .next t ∧ runEdges 2 s = .next u ∧
      completeWord w s = .next { t with inputs := s.inputs } ∧ t.cmdReady = .high ∧
      completeWord w' s = .next { u with inputs := s.inputs }

/-- R114: exactly the unknown inputs that an edge reads are refused, and every other edge has a next state. That an
unknown `cmd_valid` at an idle edge is read is the model's inference (log 7). -/
def Obligations.OnlyUnknownInputsAreRefused : Prop :=
  ∀ s : State,
    (step s = .refused (.unknownInput .rst) ↔ s.pins.rst = .unknown) ∧
    (step s = .refused (.unknownInput .cmdValid) ↔
      s.pins.rst = .low ∧ s.power = .operating ∧ s.phase = .idle ∧ s.pins.cmdValid = .unknown) ∧
    (step s = .refused (.unknownInput .cmd) ↔
      s.pins.rst = .low ∧ s.power = .operating ∧ s.phase = .idle ∧ s.pins.cmdValid = .high ∧ s.pins.cmd = .unknown) ∧
    ((∃ t, step s = .next t) ∨ ∃ p, step s = .refused (.unknownInput p))

/-- R109: before the first reset edge the block stays unreset, and what is offered is not known to be taken; the values
it then holds are free values, of which nothing is said. The form of the free values is the model's own (log 3). -/
def Obligations.UnresetBlockWaitsForReset : Prop :=
  ∀ s : State, s.power = .unreset → s.pins.rst = .low →
    ∃ t, step s = .next t ∧ t.power = .unreset ∧ t.params = s.params ∧ t.inputs = s.inputs.tail

/-- R13: `LAT` is fixed: no step changes it; each step spends one cycle of inputs, and a reset block stays reset. That both
stand in State is the model's own (log 1, 2). -/
def Obligations.EveryStepKeepsTheParameter : Prop :=
  ∀ s t : State, step s = .next t →
    t.params = s.params ∧ t.inputs = s.inputs.tail ∧ (s.power = .operating → t.power = .operating)

/-! ### Invariants -/

/-- The invariant holds after reset. -/
def Obligations.ResetStateMeetsTheInvariant : Prop := State.reset.Inv

/-- Every step keeps the invariant: idle blocks count nothing, busy ones have 1 to `LAT - 1` edges left and are quiet,
and the result registers stay consistent (R32, R68, R72, R79, R84, R85, R89, R90, R104, R107). -/
def Obligations.EveryStepKeepsTheInvariant : Prop := ∀ s t : State, s.Inv → step s = .next t → t.Inv

/-- R106: with `LAT == 1` a block that meets the invariant is ready in every cycle without reset; with any `LAT` the
cycle after a completing edge is ready if `rst` is 0. -/
def Obligations.ReadyWheneverNotBusy : Prop :=
  (∀ s : State, s.Inv → s.power = .operating → s.params.lat = 1 → s.pins.rst = .low → s.cmdReady = .high) ∧
  (∀ (s t : State) (w : CmdWord), s.Completing w → step s = .next t → t.pins.rst = .low → t.cmdReady = .high)

/-- R24, R45: the results are always those of reset or of one completed word alone, in an operating block. -/
def Obligations.ResultsAlwaysBelongToOneWord : Prop :=
  (State.reset.results.OfOneWord) ∧
  (∀ s t : State, s.power = .operating → s.results.OfOneWord → step s = .next t → t.results.OfOneWord)
end

