-- ==== Sys2Proof/Laws/Assembler.lean ====
section
/-! SUPPORT. The assembler: when an operand fits its field, what `assemble` answers, and how a SETRES line is read. -/

namespace Sys2Proof

theorem operandFits_iff (bits : Nat) (n : Int) : operandFits bits n = true ↔ 0 ≤ n ∧ n < 2 ^ bits := by
  simp [operandFits]

theorem operandFits_false_iff (bits : Nat) (n : Int) : operandFits bits n = false ↔ n < 0 ∨ 2 ^ bits ≤ n := by
  rw [← Bool.not_eq_true, operandFits_iff]
  omega

@[simp] theorem operandFits_toNat {bits : Nat} (v : BitVec bits) : operandFits bits (v.toNat : Int) = true := by
  rw [operandFits_iff]
  exact ⟨by omega, by exact_mod_cast v.isLt⟩

theorem assemble_of_wellFormed {l : SourceLine} (h : l.wellFormed = true) : assemble l = .ok l.word := by
  simp [assemble, h]

theorem assemble_of_not_wellFormed {l : SourceLine} (h : l.wellFormed = false) :
    assemble l = .error .operandOutOfRange := by
  simp [assemble, h]

/-- A SETRES line is its number, then its profile. -/
theorem lineOf_setres (operands : List (List Char)) : lineOf "SETRES".toList operands = lineOfSetres operands := by
  have h : ∀ m ∈ ["CRCGEN", "CRCCHK", "REGMERGE", "EXTRACT", "CONVT", "CONVRH", "MEAST", "MEASRH", ".cmd", "VERIFY"],
      "SETRES".toList ≠ m.toList := by decide +kernel
  unfold lineOf
  simp only [List.mem_cons, forall_eq_or_imp, List.not_mem_nil, false_imp_iff, implies_true, and_true] at h
  obtain ⟨h1, h2, h3, h4, h5, h6, h7, h8, h9, h10⟩ := h
  rw [if_neg h1, if_neg h2, if_neg h3, if_neg h4, if_neg h5, if_neg h6, if_neg h7, if_neg h8, if_neg h9, if_neg h10,
    if_pos rfl]

/-- A VERIFY line is its three numbers. -/
theorem lineOf_verify (operands : List (List Char)) : lineOf "VERIFY".toList operands = lineOf3 .verify operands := by
  have h : ∀ m ∈ ["CRCGEN", "CRCCHK", "REGMERGE", "EXTRACT", "CONVT", "CONVRH", "MEAST", "MEASRH", ".cmd"],
      "VERIFY".toList ≠ m.toList := by decide +kernel
  unfold lineOf
  simp only [List.mem_cons, forall_eq_or_imp, List.not_mem_nil, false_imp_iff, implies_true, and_true] at h
  obtain ⟨h1, h2, h3, h4, h5, h6, h7, h8, h9⟩ := h
  rw [if_neg h1, if_neg h2, if_neg h3, if_neg h4, if_neg h5, if_neg h6, if_neg h7, if_neg h8, if_neg h9, if_pos rfl]

end Sys2Proof
end

