-- ==== Sys2Proof/Laws/State.lean ====
section
/-! SUPPORT. One lemma per field per update of State and of Results, so that no proof unfolds a record update. -/

namespace Sys2Proof.Machine

/-! ### State.complete -/

@[simp] theorem State.complete_results (s : State) (r : Results) : (s.complete r).results = r := rfl
@[simp] theorem State.complete_done (s : State) (r : Results) : (s.complete r).done = 1#1 := rfl
@[simp] theorem State.complete_phase (s : State) (r : Results) : (s.complete r).phase = s.phase := rfl
@[simp] theorem State.complete_cnt (s : State) (r : Results) : (s.complete r).cnt = s.cnt := rfl
@[simp] theorem State.complete_pend (s : State) (r : Results) : (s.complete r).pend = s.pend := rfl
@[simp] theorem State.complete_params (s : State) (r : Results) : (s.complete r).params = s.params := rfl
@[simp] theorem State.complete_inputs (s : State) (r : Results) : (s.complete r).inputs = s.inputs := rfl
@[simp] theorem State.complete_power (s : State) (r : Results) : (s.complete r).power = s.power := rfl
@[simp] theorem State.complete_draws (s : State) (r : Results) : (s.complete r).draws = s.draws := rfl

/-! ### State.resetEdge -/

@[simp] theorem State.resetEdge_results (s : State) : (s.resetEdge).results = Results.zero := rfl
@[simp] theorem State.resetEdge_done (s : State) : (s.resetEdge).done = 0#1 := rfl
@[simp] theorem State.resetEdge_phase (s : State) : (s.resetEdge).phase = .idle := rfl
@[simp] theorem State.resetEdge_cnt (s : State) : (s.resetEdge).cnt = 0 := rfl
@[simp] theorem State.resetEdge_pend (s : State) : (s.resetEdge).pend = 0x000000000000#48 := rfl
@[simp] theorem State.resetEdge_params (s : State) : (s.resetEdge).params = s.params := rfl
@[simp] theorem State.resetEdge_inputs (s : State) : (s.resetEdge).inputs = s.inputs := rfl
@[simp] theorem State.resetEdge_power (s : State) : (s.resetEdge).power = .operating := rfl
@[simp] theorem State.resetEdge_draws (s : State) : (s.resetEdge).draws = s.draws := rfl

/-! ### State.edge -/

@[simp] theorem State.edge_results (s : State) : (s.edge).results = s.results := rfl
@[simp] theorem State.edge_done (s : State) : (s.edge).done = 0#1 := rfl
@[simp] theorem State.edge_phase (s : State) : (s.edge).phase = s.phase := rfl
@[simp] theorem State.edge_cnt (s : State) : (s.edge).cnt = s.cnt := rfl
@[simp] theorem State.edge_pend (s : State) : (s.edge).pend = s.pend := rfl
@[simp] theorem State.edge_params (s : State) : (s.edge).params = s.params := rfl
@[simp] theorem State.edge_inputs (s : State) : (s.edge).inputs = s.inputs.tail := rfl
@[simp] theorem State.edge_power (s : State) : (s.edge).power = s.power := rfl
@[simp] theorem State.edge_draws (s : State) : (s.edge).draws = s.draws := rfl

/-! ### State.hold -/

@[simp] theorem State.hold_results (s : State) (w : CmdWord) : (s.hold w).results = s.results := rfl
@[simp] theorem State.hold_done (s : State) (w : CmdWord) : (s.hold w).done = s.done := rfl
@[simp] theorem State.hold_phase (s : State) (w : CmdWord) : (s.hold w).phase = .busy := rfl
@[simp] theorem State.hold_cnt (s : State) (w : CmdWord) : (s.hold w).cnt = s.params.lat - 1 := rfl
@[simp] theorem State.hold_pend (s : State) (w : CmdWord) : (s.hold w).pend = w := rfl
@[simp] theorem State.hold_params (s : State) (w : CmdWord) : (s.hold w).params = s.params := rfl
@[simp] theorem State.hold_inputs (s : State) (w : CmdWord) : (s.hold w).inputs = s.inputs := rfl
@[simp] theorem State.hold_power (s : State) (w : CmdWord) : (s.hold w).power = s.power := rfl
@[simp] theorem State.hold_draws (s : State) (w : CmdWord) : (s.hold w).draws = s.draws := rfl

/-! ### State.countDown -/

@[simp] theorem State.countDown_results (s : State) : (s.countDown).results = s.results := rfl
@[simp] theorem State.countDown_done (s : State) : (s.countDown).done = s.done := rfl
@[simp] theorem State.countDown_phase (s : State) : (s.countDown).phase = s.phase := rfl
@[simp] theorem State.countDown_cnt (s : State) : (s.countDown).cnt = s.cnt - 1 := rfl
@[simp] theorem State.countDown_pend (s : State) : (s.countDown).pend = s.pend := rfl
@[simp] theorem State.countDown_params (s : State) : (s.countDown).params = s.params := rfl
@[simp] theorem State.countDown_inputs (s : State) : (s.countDown).inputs = s.inputs := rfl
@[simp] theorem State.countDown_power (s : State) : (s.countDown).power = s.power := rfl
@[simp] theorem State.countDown_draws (s : State) : (s.countDown).draws = s.draws := rfl

/-! ### State.release -/

@[simp] theorem State.release_results (s : State) : (s.release).results = s.results := rfl
@[simp] theorem State.release_done (s : State) : (s.release).done = s.done := rfl
@[simp] theorem State.release_phase (s : State) : (s.release).phase = .idle := rfl
@[simp] theorem State.release_cnt (s : State) : (s.release).cnt = 0 := rfl
@[simp] theorem State.release_pend (s : State) : (s.release).pend = s.pend := rfl
@[simp] theorem State.release_params (s : State) : (s.release).params = s.params := rfl
@[simp] theorem State.release_inputs (s : State) : (s.release).inputs = s.inputs := rfl
@[simp] theorem State.release_power (s : State) : (s.release).power = s.power := rfl
@[simp] theorem State.release_draws (s : State) : (s.release).draws = s.draws := rfl

/-! ### State.unresetEdge: what it keeps. Its other fields are free values. -/

@[simp] theorem State.unresetEdge_params (s : State) : s.unresetEdge.params = s.params := rfl
@[simp] theorem State.unresetEdge_inputs (s : State) : s.unresetEdge.inputs = s.inputs := rfl
@[simp] theorem State.unresetEdge_power (s : State) : s.unresetEdge.power = s.power := rfl
@[simp] theorem State.unresetEdge_draws (s : State) : s.unresetEdge.draws = s.draws + 1 := rfl

/-! ### Results.raise -/

@[simp] theorem Results.raise_rLastOp (r : Results) (e : ErrorCode) : (r.raise e).rLastOp = r.rLastOp := rfl
@[simp] theorem Results.raise_rErr (r : Results) (e : ErrorCode) : (r.raise e).rErr = e.code := rfl
@[simp] theorem Results.raise_rOk (r : Results) (e : ErrorCode) : (r.raise e).rOk = r.rOk := rfl
@[simp] theorem Results.raise_rCrc (r : Results) (e : ErrorCode) : (r.raise e).rCrc = r.rCrc := rfl
@[simp] theorem Results.raise_rRem (r : Results) (e : ErrorCode) : (r.raise e).rRem = r.rRem := rfl
@[simp] theorem Results.raise_rRaw (r : Results) (e : ErrorCode) : (r.raise e).rRaw = r.rRaw := rfl
@[simp] theorem Results.raise_rStat (r : Results) (e : ErrorCode) : (r.raise e).rStat = r.rStat := rfl
@[simp] theorem Results.raise_rRes (r : Results) (e : ErrorCode) : (r.raise e).rRes = r.rRes := rfl
@[simp] theorem Results.raise_rCenti (r : Results) (e : ErrorCode) : (r.raise e).rCenti = r.rCenti := rfl
@[simp] theorem Results.raise_rReg (r : Results) (e : ErrorCode) : (r.raise e).rReg = r.rReg := rfl

/-! ### Results.verify -/

@[simp] theorem Results.verify_rLastOp (r : Results) (a : Reading) : (r.verify a).rLastOp = r.rLastOp := rfl
@[simp] theorem Results.verify_rErr (r : Results) (a : Reading) : (r.verify a).rErr = r.rErr := rfl
@[simp] theorem Results.verify_rOk (r : Results) (a : Reading) : (r.verify a).rOk = BitVec.ofBool (verdict a) := rfl
@[simp] theorem Results.verify_rCrc (r : Results) (a : Reading) : (r.verify a).rCrc = crc8 (value16Of a) := rfl
@[simp] theorem Results.verify_rRem (r : Results) (a : Reading) : (r.verify a).rRem = (div24 a).extractLsb' 0 8 := rfl
@[simp] theorem Results.verify_rRaw (r : Results) (a : Reading) : (r.verify a).rRaw = r.rRaw := rfl
@[simp] theorem Results.verify_rStat (r : Results) (a : Reading) : (r.verify a).rStat = r.rStat := rfl
@[simp] theorem Results.verify_rRes (r : Results) (a : Reading) : (r.verify a).rRes = r.rRes := rfl
@[simp] theorem Results.verify_rCenti (r : Results) (a : Reading) : (r.verify a).rCenti = r.rCenti := rfl
@[simp] theorem Results.verify_rReg (r : Results) (a : Reading) : (r.verify a).rReg = r.rReg := rfl

/-! ### Results.convert -/

@[simp] theorem Results.convert_rLastOp (r : Results) (q : Quantity) (v : Half) : (r.convert q v).rLastOp = r.rLastOp := rfl
@[simp] theorem Results.convert_rErr (r : Results) (q : Quantity) (v : Half) : (r.convert q v).rErr = r.rErr := rfl
@[simp] theorem Results.convert_rOk (r : Results) (q : Quantity) (v : Half) : (r.convert q v).rOk = r.rOk := rfl
@[simp] theorem Results.convert_rCrc (r : Results) (q : Quantity) (v : Half) : (r.convert q v).rCrc = r.rCrc := rfl
@[simp] theorem Results.convert_rRem (r : Results) (q : Quantity) (v : Half) : (r.convert q v).rRem = r.rRem := rfl
@[simp] theorem Results.convert_rRaw (r : Results) (q : Quantity) (v : Half) : (r.convert q v).rRaw = maskRaw v := rfl
@[simp] theorem Results.convert_rStat (r : Results) (q : Quantity) (v : Half) : (r.convert q v).rStat = status v := rfl
@[simp] theorem Results.convert_rRes (r : Results) (q : Quantity) (v : Half) : (r.convert q v).rRes = int32 (q.num (maskRaw v)) := rfl
@[simp] theorem Results.convert_rCenti (r : Results) (q : Quantity) (v : Half) : (r.convert q v).rCenti = int32 (centi (q.num (maskRaw v))) := rfl
@[simp] theorem Results.convert_rReg (r : Results) (q : Quantity) (v : Half) : (r.convert q v).rReg = r.rReg := rfl

/-! ### Results.sentinel -/

@[simp] theorem Results.sentinel_rLastOp (r : Results) : (r.sentinel).rLastOp = r.rLastOp := rfl
@[simp] theorem Results.sentinel_rErr (r : Results) : (r.sentinel).rErr = 1#2 := rfl
@[simp] theorem Results.sentinel_rOk (r : Results) : (r.sentinel).rOk = r.rOk := rfl
@[simp] theorem Results.sentinel_rCrc (r : Results) : (r.sentinel).rCrc = r.rCrc := rfl
@[simp] theorem Results.sentinel_rRem (r : Results) : (r.sentinel).rRem = r.rRem := rfl
@[simp] theorem Results.sentinel_rRaw (r : Results) : (r.sentinel).rRaw = r.rRaw := rfl
@[simp] theorem Results.sentinel_rStat (r : Results) : (r.sentinel).rStat = r.rStat := rfl
@[simp] theorem Results.sentinel_rRes (r : Results) : (r.sentinel).rRes = Config.sentRes := rfl
@[simp] theorem Results.sentinel_rCenti (r : Results) : (r.sentinel).rCenti = int32 Config.sentCenti := rfl
@[simp] theorem Results.sentinel_rReg (r : Results) : (r.sentinel).rReg = r.rReg := rfl

/-! ### Results.ofOpcode -/

@[simp] theorem Results.ofOpcode_rLastOp (op : Byte) : (Results.ofOpcode op).rLastOp = op := rfl
@[simp] theorem Results.ofOpcode_rErr (op : Byte) : (Results.ofOpcode op).rErr = 0#2 := rfl
@[simp] theorem Results.ofOpcode_rOk (op : Byte) : (Results.ofOpcode op).rOk = 0#1 := rfl
@[simp] theorem Results.ofOpcode_rCrc (op : Byte) : (Results.ofOpcode op).rCrc = 0x00#8 := rfl
@[simp] theorem Results.ofOpcode_rRem (op : Byte) : (Results.ofOpcode op).rRem = 0x00#8 := rfl
@[simp] theorem Results.ofOpcode_rRaw (op : Byte) : (Results.ofOpcode op).rRaw = 0x0000#16 := rfl
@[simp] theorem Results.ofOpcode_rStat (op : Byte) : (Results.ofOpcode op).rStat = 0#2 := rfl
@[simp] theorem Results.ofOpcode_rRes (op : Byte) : (Results.ofOpcode op).rRes = 0x00000000#32 := rfl
@[simp] theorem Results.ofOpcode_rCenti (op : Byte) : (Results.ofOpcode op).rCenti = 0x00000000#32 := rfl
@[simp] theorem Results.ofOpcode_rReg (op : Byte) : (Results.ofOpcode op).rReg = 0x00#8 := rfl

end Sys2Proof.Machine
end

