-- ==== Sys2Proof/Laws/Ops.lean ====
section
/-! SUPPORT. One lemma for each shared operation: the fields of a packed word, the ports, the division's loop, the
verdict, the parameter. -/

namespace Sys2Proof

/-! ### Slices of concatenations, and the fields of packed words -/

/-- A slice above the low part of a concatenation is a slice of the high part. -/
theorem slice_append_high {n m : Nat} (x : BitVec n) (y : BitVec m) (k len : Nat) :
    (x ++ y).extractLsb' (m + k) len = x.extractLsb' k len := by
  apply BitVec.eq_of_getLsbD_eq
  intro i hi
  have h : ¬ m + k + i < m := by omega
  have h' : m + k + i - m = k + i := by omega
  simp only [BitVec.getLsbD_extractLsb', BitVec.getLsbD_append, h, if_false, h']

/-- A slice within the low part of a concatenation is a slice of the low part. -/
theorem slice_append_low {n m : Nat} (x : BitVec n) (y : BitVec m) (k len : Nat) (hk : k + len ≤ m) :
    (x ++ y).extractLsb' k len = y.extractLsb' k len := by
  apply BitVec.eq_of_getLsbD_eq
  intro i hi
  have h : k + i < m := by omega
  simp only [BitVec.getLsbD_extractLsb', BitVec.getLsbD_append, h, if_true]

/-- The whole of a bit vector as a slice. -/
theorem slice_whole {n : Nat} (x : BitVec n) : x.extractLsb' 0 n = x := by
  apply BitVec.eq_of_getLsbD_eq
  intro i hi
  simp [hi]

@[simp] theorem opOf_packWord (op : Byte) (b : Half) (a : Reading) : opOf (packWord op b a) = op :=
  (slice_append_high (op ++ b) a 16 8).trans ((slice_append_high op b 0 8).trans (slice_whole op))

@[simp] theorem operandB_packWord (op : Byte) (b : Half) (a : Reading) : operandB (packWord op b a) = b :=
  (slice_append_high (op ++ b) a 0 16).trans
    ((slice_append_low op b 0 16 (by decide)).trans (slice_whole b))

@[simp] theorem operandA_packWord (op : Byte) (b : Half) (a : Reading) : operandA (packWord op b a) = a :=
  (slice_append_low (op ++ b) a 0 24 (by decide)).trans (slice_whole a)

@[simp] theorem value16Of_append (v : Half) (c : Byte) : value16Of (v ++ c) = v :=
  (slice_append_high v c 0 16).trans (slice_whole v)

@[simp] theorem checksum8Of_append (v : Half) (c : Byte) : checksum8Of (v ++ c) = c :=
  (slice_append_low v c 0 8 (by decide)).trans (slice_whole c)

end Sys2Proof

namespace Sys2Proof.Machine

/-- The three wire bytes are the pair of the big-endian value and the checksum byte (R37). -/
theorem wireReading_eq_pairWord (b0 b1 b2 : Byte) : wireReading b0 b1 b2 = pairWord (b0 ++ b1) b2 := rfl

@[simp] theorem value16Of_pairWord (v : Half) (c : Byte) : value16Of (pairWord v c) = v := value16Of_append v c

@[simp] theorem value16Of_wireReading (b0 b1 b2 : Byte) : value16Of (wireReading b0 b1 b2) = b0 ++ b1 :=
  value16Of_append (b0 ++ b1) b2

/-! ### The parameter -/

theorem lat_pos (p : Config.Params) : 1 ≤ p.lat := by
  simp [Config.Params.lat]

/-! ### Ports -/

@[simp] theorem pins_cons (s : State) (p : Pins) (ps : List Pins) :
    ({ s with inputs := p :: ps } : State).pins = p := rfl

theorem pins_of_inputs {s : State} {p : Pins} {ps : List Pins} (h : s.inputs = p :: ps) : s.pins = p := by
  simp [State.pins, h]

theorem pins_of_no_inputs {s : State} (h : s.inputs = []) : s.pins = Pins.quiet := by
  simp [State.pins, h]

/-! ### The division -/

@[simp] theorem div24After_zero (w : Reading) : div24After w 0 = (w, Config.divisor0) := rfl

theorem div24After_succ (w : Reading) (k : Nat) :
    div24After w (k + 1) =
      (if (div24After w k).1.getLsbD (23 - k) then (div24After w k).1 ^^^ (div24After w k).2
        else (div24After w k).1, (div24After w k).2 >>> 1) := rfl

theorem verdict_iff (a : Reading) : verdict a = true ↔ div24 a = 0#24 := by
  simp [verdict]

theorem verdict_false_iff (a : Reading) : verdict a = false ↔ div24 a ≠ 0#24 := by
  simp [verdict]

/-! ### The measurement's two outcomes -/

theorem Results.measure_of_verified {a : Reading} (h : verdict a = true) (q : Quantity) (r : Results) :
    r.measure q a = (r.verify a).convert q (value16Of a) := by
  simp [Results.measure, h]

theorem Results.measure_of_failed {a : Reading} (h : verdict a = false) (q : Quantity) (r : Results) :
    r.measure q a = (r.verify a).sentinel := by
  simp [Results.measure, h]

end Sys2Proof.Machine
end

