-- ==== Sys2Proof/Laws/Exec.lean ====
section
/-! SUPPORT. What `exec` and the completion of a word can do, said once. -/

namespace Sys2Proof.Machine

/-- Every command completes: it writes a result set and pulses `done`, nothing else. -/
theorem exec_completes (i : Instr) (s : State) : ∃ r, exec i s = .next (s.complete r) := by
  cases i <;> exact ⟨_, rfl⟩

theorem completeWord_of_command {w : CmdWord} {i : Instr} (h : decode w = .command i) (s : State) :
    completeWord w s = exec i s := by
  simp [completeWord, h]

theorem completeWord_of_reserved {w : CmdWord} {op : Byte} (h : decode w = .reserved op) (s : State) :
    completeWord w s = execReserved op s := by
  simp [completeWord, h]

/-- Every word completes, a reserved opcode included. -/
theorem completeWord_completes (w : CmdWord) (s : State) : ∃ r, completeWord w s = .next (s.complete r) := by
  cases h : decode w with
  | command i => simpa only [completeWord_of_command h] using exec_completes i s
  | reserved op => exact ⟨_, completeWord_of_reserved h s⟩

end Sys2Proof.Machine
end

