-- ==== Sys2Proof/Laws/PerInstr.lean ====
section
/-! SUPPORT. The family EncodesItsFields: of every command, its encoding's three fields are its opcode and operands,
and its opcode is none of the reserved ones (R50, R54). -/

namespace Sys2Proof.Laws.EncodesItsFields

/-- The fields of the encoding are the command's, the command is well formed and its opcode is assigned. -/
def Statement (i : Instr) : Prop :=
  i.wellFormed = true ∧ opOf (encode i) = i.opcode ∧ operandB (encode i) = i.fieldB ∧ operandA (encode i) = i.fieldA ∧
    0x01#8 ≤ i.opcode ∧ i.opcode ≤ 0x08#8

theorem crcgen (value16 : Half) : Statement (.crcgen value16) := by
  simp [Statement, encode, Instr.wellFormed, Instr.opcode]

theorem crcchk (value16 : Half) (checksum8 : Byte) : Statement (.crcchk value16 checksum8) := by
  simp [Statement, encode, Instr.wellFormed, Instr.opcode]

theorem regmerge (old registerBits : Byte) : Statement (.regmerge old registerBits) := by
  simp [Statement, encode, Instr.wellFormed, Instr.opcode]

theorem extract (raw : Half) : Statement (.extract raw) := by
  simp [Statement, encode, Instr.wellFormed, Instr.opcode]

theorem convt (raw : Half) : Statement (.convt raw) := by
  simp [Statement, encode, Instr.wellFormed, Instr.opcode]

theorem convrh (raw : Half) : Statement (.convrh raw) := by
  simp [Statement, encode, Instr.wellFormed, Instr.opcode]

theorem meast (byte0 byte1 byte2 : Byte) : Statement (.meast byte0 byte1 byte2) := by
  simp [Statement, encode, Instr.wellFormed, Instr.opcode]

theorem measrh (byte0 byte1 byte2 : Byte) : Statement (.measrh byte0 byte1 byte2) := by
  simp [Statement, encode, Instr.wellFormed, Instr.opcode]

end Sys2Proof.Laws.EncodesItsFields
end

