-- ==== Sys2Proof/Laws/Step.lean ====
section
/-! SUPPORT. What one edge does, branch by branch, and the inversion of a step that answers a next state. -/

namespace Sys2Proof.Machine

variable {s t : State} {w : CmdWord}

theorem step_reset (h : s.pins.rst = .high) : step s = .next s.edge.resetEdge := by
  simp [step, clockEdge, h]

theorem step_unreset (h : s.pins.rst = .low) (hp : s.power = .unreset) : step s = .next s.edge.unresetEdge := by
  simp [step, clockEdge, h, hp]

theorem step_idle (h : s.pins.rst = .low) (hp : s.power = .operating) (hi : s.phase = .idle) :
    step s = idleEdge s.pins s.edge := by
  simp [step, clockEdge, h, hp, hi]

theorem step_busy (h : s.pins.rst = .low) (hp : s.power = .operating) (hb : s.phase = .busy) :
    step s = busyEdge s.edge := by
  simp [step, clockEdge, h, hp, hb]

theorem step_accepting (h : s.Accepting w) : step s = acceptWord w s.edge := by
  simp [step_idle h.noReset h.operating h.idle, idleEdge, h.offered, h.word]

theorem step_finishing (h : s.Finishing w) : step s = completeWord w s.edge.release := by
  simp [step_busy h.noReset h.operating h.busy, busyEdge, h.last, h.word]

/-- Everything a step that answers a next state can have done. -/
theorem step_cases (h : step s = .next t) :
    (s.pins.rst = .high ∧ t = s.edge.resetEdge) ∨
    (s.pins.rst = .low ∧ s.power = .unreset ∧ t = s.edge.unresetEdge) ∨
    (s.pins.rst = .low ∧ s.power = .operating ∧ s.phase = .idle ∧ s.pins.cmdValid = .low ∧ t = s.edge) ∨
    (∃ w, s.Accepting w ∧ s.params.lat ≠ 1 ∧ t = s.edge.hold w) ∨
    (∃ w, s.Accepting w ∧ s.params.lat = 1 ∧ completeWord w s.edge = .next t) ∨
    (s.pins.rst = .low ∧ s.power = .operating ∧ s.phase = .busy ∧ s.cnt ≠ 1 ∧ t = s.edge.countDown) ∨
    (∃ w, s.Finishing w ∧ completeWord w s.edge.release = .next t) := by
  cases hr : s.pins.rst with
  | unknown => simp [step, clockEdge, hr] at h
  | high => rw [step_reset hr] at h; cases h; exact .inl ⟨rfl, rfl⟩
  | low =>
    cases hp : s.power with
    | unreset => rw [step_unreset hr hp] at h; cases h; exact .inr (.inl ⟨rfl, rfl, rfl⟩)
    | operating =>
      cases hf : s.phase with
      | idle =>
        rw [step_idle hr hp hf] at h
        cases hv : s.pins.cmdValid with
        | unknown => simp [idleEdge, hv] at h
        | low => simp only [idleEdge, hv] at h; cases h; exact .inr (.inr (.inl ⟨rfl, rfl, rfl, rfl, rfl⟩))
        | high =>
          cases hc : s.pins.cmd with
          | unknown => simp [idleEdge, hv, hc] at h
          | word w =>
            have ha : s.Accepting w := ⟨hp, hf, hr, hv, hc⟩
            by_cases hl : s.params.lat = 1
            · refine .inr (.inr (.inr (.inr (.inl ⟨w, ha, hl, ?_⟩))))
              simpa [idleEdge, hv, hc, acceptWord, hl] using h
            · refine .inr (.inr (.inr (.inl ⟨w, ha, hl, ?_⟩)))
              simpa [idleEdge, hv, hc, acceptWord, hl] using h.symm
      | busy =>
        rw [step_busy hr hp hf] at h
        by_cases hc : s.cnt = 1
        · refine .inr (.inr (.inr (.inr (.inr (.inr ⟨s.pend, ⟨hp, hf, hr, hc, rfl⟩, ?_⟩)))))
          simpa [busyEdge, hc] using h
        · refine .inr (.inr (.inr (.inr (.inr (.inl ⟨rfl, rfl, rfl, hc, ?_⟩)))))
          simpa [busyEdge, hc] using h.symm

/-! ### Runs of edges -/

@[simp] theorem runEdges_zero (s : State) : runEdges 0 s = .next s := rfl

theorem runEdges_succ_of_next {k : Nat} (h : runEdges k s = .next t) : runEdges (k + 1) s = step t := by
  simp [runEdges, h]

theorem runEdges_one (s : State) : runEdges 1 s = step s := rfl

end Sys2Proof.Machine
end

