-- ==== Sys2Proof/Tests/Slice0.lean ====
section
/-! SUPPORT. The model's own tests. Expected values come from the spec: the field patterns of R54, the rules' examples and
spec/95_test_vectors.md (each test names its vector). After them, one witness for each statement's hypotheses. -/

namespace Sys2Proof.Tests

open Sys2Proof Sys2Proof.Machine

/-! ### Helpers -/

/-- The results after the one step that runs the word `w` from reset. -/
def resultsOf (w : Nat) : Option Results :=
  match step (State.reset.withFetchWord 48 w) with
  | .next t => some t.results
  | .fault _ => none
  | .refused _ => none

/-- `phase`, `cnt`, `done`, `R_LASTOP` after one step. -/
def sequencing (s : State) : Option (Phase × Nat × Bit × Byte) :=
  match step s with
  | .next t => some (t.phase, t.cnt, t.done, t.results.rLastOp)
  | .fault _ => none
  | .refused _ => none

/-- The refusal of one step. -/
def refusalOf (s : State) : Option Refusal :=
  match step s with
  | .next _ => none
  | .fault _ => none
  | .refused r => some r

/-- A block at `LAT = n + 1` after reset, with `w` offered. -/
def offering (n : Nat) (w : CmdWord) : State :=
  { State.reset with params := { latMinusOne := n }, inputs := [Pins.offer w] }

/-- A block at `LAT = 3` with the word of V-TIM-3 pending and `cnt` edges left, the host driving `p`. -/
def pendingBlock (cnt : Nat) (p : Pins) : State :=
  { State.reset with params := { latMinusOne := 2 }, phase := .busy, cnt := cnt, pend := 0x0700007CBAEB#48, inputs := [p] }

/-! ### WellFormed: an operand that does not fit is refused, check by check (R58) -/

theorem smoke_crcgen_v16_too_large : SourceLine.wellFormed (.crcgen 65536) = false := by decide
theorem smoke_crcgen_v16_negative : SourceLine.wellFormed (.crcgen (-1)) = false := by decide
theorem smoke_crcchk_v16 : SourceLine.wellFormed (.crcchk 65536 0) = false := by decide
theorem smoke_crcchk_c8 : SourceLine.wellFormed (.crcchk 0 256) = false := by decide
theorem smoke_regmerge_old8 : SourceLine.wellFormed (.regmerge 256 0) = false := by decide
theorem smoke_regmerge_bits8 : SourceLine.wellFormed (.regmerge 0 256) = false := by decide
theorem smoke_extract_raw16 : SourceLine.wellFormed (.extract 65536) = false := by decide
theorem smoke_convt_raw16 : SourceLine.wellFormed (.convt 65536) = false := by decide
theorem smoke_convrh_raw16 : SourceLine.wellFormed (.convrh (-1)) = false := by decide
theorem smoke_meast_b0 : SourceLine.wellFormed (.meast 256 0 0) = false := by decide
theorem smoke_meast_b1 : SourceLine.wellFormed (.meast 0 256 0) = false := by decide
theorem smoke_meast_b2 : SourceLine.wellFormed (.meast 0 0 256) = false := by decide
theorem smoke_measrh_b0 : SourceLine.wellFormed (.measrh (-1) 0 0) = false := by decide
theorem smoke_measrh_b1 : SourceLine.wellFormed (.measrh 0 256 0) = false := by decide
theorem smoke_measrh_b2 : SourceLine.wellFormed (.measrh 0 0 256) = false := by decide
theorem smoke_cmd_w48 : SourceLine.wellFormed (.cmd 281474976710656) = false := by decide
theorem smoke_verify_b0 : SourceLine.wellFormed (.verify 256 0 0) = false := by decide
theorem smoke_verify_b1 : SourceLine.wellFormed (.verify 0 256 0) = false := by decide
theorem smoke_verify_b2 : SourceLine.wellFormed (.verify 0 0 256) = false := by decide
theorem smoke_setres_old8 : SourceLine.wellFormed (.setres 256 .rh8t12) = false := by decide
theorem smoke_largest_operands_fit : SourceLine.wellFormed (.crcchk 65535 255) = true := by decide

/-! ### Decoding: each command's word, bit for bit from its field pattern in R54, ignored bits 1 or mixed -/

theorem test_decode_crcgen :
    decode 0b000000011111111111111111011111001011101011111111#48 = .command (.crcgen 0x7CBA#16) := by decide
theorem test_decode_crcchk :
    decode 0b000000101111111111111111011111001011101011101011#48 = .command (.crcchk 0x7CBA#16 0xEB#8) := by decide
theorem test_decode_regmerge :
    decode 0b000000111000000100111010111111111111111111111111#48 = .command (.regmerge 0x3A#8 0x81#8) := by decide
theorem test_decode_extract :
    decode 0b000001001010101010101010011111001011101011001100#48 = .command (.extract 0x7CBA#16) := by decide
theorem test_decode_convt :
    decode 0b000001010000000000000000100000000000010011111111#48 = .command (.convt 0x8004#16) := by decide
theorem test_decode_convrh :
    decode 0b000001101111000011110000000100000000000100000000#48 = .command (.convrh 0x1001#16) := by decide
theorem test_decode_meast :
    decode 0b000001110000000000000001011111001011101011101011#48 = .command (.meast 0x7C#8 0xBA#8 0xEB#8) := by decide
theorem test_decode_measrh :
    decode 0b000010001000000000000000011010000011101001111100#48 = .command (.measrh 0x68#8 0x3A#8 0x7C#8) := by decide
theorem test_decode_reserved_zero : decode 0x000000000000#48 = .reserved 0x00#8 := by decide
theorem test_decode_reserved_nine : decode 0x09FFFFFFFFFF#48 = .reserved 0x09#8 := by decide
theorem test_decode_bytes : decodeBytes [0x07#8, 0x00#8, 0x00#8, 0x7C#8, 0xBA#8, 0xEB#8] =
    .ok (.meast 0x7C#8 0xBA#8 0xEB#8) := by decide
theorem test_decode_bytes_short : decodeBytes [0x07#8, 0x00#8] = .error (.wrongLength 2) := by decide
theorem test_decode_table_word : decodeTableWord 48 0x03813A000000 = some (.regmerge 0x3A#8 0x81#8) := by decide
/-- V-CRC-12 without its ignored bits, from the assembler forms. -/
theorem test_encode_regmerge : encode (.regmerge 0x3A#8 0x81#8) = 0x03813A000000#48 := by decide

/-! ### The assembler on text (R58, R59) -/

/-- V-BFX-10. -/
theorem test_assemble_setres :
    assembleText "  SETRES 0x3A, RH8_T12 ; comment".toList = .ok (some 0x03013A000000#48) := by decide +kernel
/-- V-MEA-1. -/
theorem test_assemble_meast : assembleText "MEAST 124, 0xBA, 0xeb".toList = .ok (some 0x0700007CBAEB#48) := by decide +kernel
theorem test_assemble_out_of_range : assembleText "CRCCHK 0x10000, 1".toList = .error .operandOutOfRange := by
  decide +kernel
theorem test_assemble_unknown_profile : assembleText "SETRES 1, RH9_T12".toList = .error .unknownProfile := by
  decide +kernel

/-! ### The division: rows of the trace of 95_test_vectors.md section 2 -/

theorem test_div24_after_seven_iterations : (div24After 0x7CBAEB#24 7).1 = 0x010EEB#24 := by decide +kernel
theorem test_div24_last_rows : (div24After 0x7CBAEB#24 15) = (0x000131#24, 0x000131#24) := by decide +kernel
theorem test_div24_checksum_zero : div24 0x7CBA00#24 = 0x0000EB#24 := by decide +kernel
/-- V-GK-1, both forms. -/
theorem test_crc8_published_example : crc8 0x683A#16 = 0x7C#8 ∧ crc8Serial 0x683A#16 = 0x7C#8 := by decide +kernel

/-! ### One step from reset: vectors of 95_test_vectors.md -/

/-- V-CRC-12. -/
theorem test_crcgen_ignores_other_fields :
    (resultsOf 0x0112347CBA55).map (fun r => (r.rCrc, r.rRem, r.rOk)) = some (0xEB#8, 0xEB#8, 0#1) := by decide +kernel
/-- V-CRC-8. -/
theorem test_crcchk_flipped_bit :
    (resultsOf 0x020000FCBAEB).map (fun r => (r.rCrc, r.rRem, r.rOk, r.rErr)) = some (0xC8#8, 0x23#8, 0#1, 0#2) := by
  decide +kernel
/-- V-CRC-11: an aliasing pattern. -/
theorem test_crcchk_alias : (resultsOf 0x0200007CBBDA).map (fun r => (r.rOk, r.rRem)) = some (1#1, 0#8) := by
  decide +kernel
/-- V-BFX-9. -/
theorem test_regmerge_ignores_a : (resultsOf 0x038002FFFFFF).map (fun r => (r.rReg, r.rLastOp)) = some (0x82#8, 3#8) := by
  decide +kernel
/-- V-BFX-2. -/
theorem test_regmerge_discards_bits : (resultsOf 0x03FF00000000).map (fun r => r.rReg) = some 0x81#8 := by decide +kernel
/-- V-BFX-5. -/
theorem test_extract : (resultsOf 0x0400007CBA00).map (fun r => (r.rRaw, r.rStat)) = some (0x7CB8#16, 0b10#2) := by
  decide +kernel
/-- V-CNV-3: the floor of -4683.93. -/
theorem test_convt_floor :
    (resultsOf 0x050000000400).map (fun r => (r.rRes, r.rCenti)) = some (0xEDB41290#32, 0xFFFFEDB4#32) := by
  decide +kernel
/-- V-CNV-7. -/
theorem test_convt_top :
    (resultsOf 0x050000FFFF00).map (fun r => (r.rRaw, r.rStat, r.rRes)) = some (0xFFFC#16, 3#2, 0x3255ED70#32) := by
  decide +kernel
/-- V-CNV-11. -/
theorem test_convrh_floor :
    (resultsOf 0x060000000400).map (fun r => (r.rRes, r.rCenti)) = some (0xFDA8C350#32, 0xFFFFFDA8#32) := by
  decide +kernel
/-- V-MEA-1. -/
theorem test_meast_verified :
    (resultsOf 0x0700007CBAEB).map (fun r => (r.rErr, r.rOk, r.rRaw, r.rRes, r.rCenti)) =
      some (0#2, 1#1, 0x7CB8#16, 0x0F23C5E0#32, 3875#32) := by decide +kernel
/-- V-MEA-10: the checksum is of the unmasked value. -/
theorem test_meast_masked_value_fails :
    (resultsOf 0x0700007CB8EB).map (fun r => (r.rErr, r.rCrc, r.rRem, r.rRes, r.rCenti)) =
      some (1#2, 0x89#8, 0x62#8, 0x7FFFFFFF#32, 0x0001863C#32) := by decide +kernel
/-- V-MEA-7. -/
theorem test_measrh_verified :
    (resultsOf 0x080000FFFC7E).map (fun r => (r.rErr, r.rOk, r.rRes, r.rCenti)) =
      some (0#2, 1#1, 0x2E7B3CB0#32, 11899#32) := by decide +kernel
/-- V-MEA-4. -/
theorem test_measrh_failed :
    (resultsOf 0x0800007CBAEA).map (fun r => (r.rErr, r.rOk, r.rRem, r.rRaw)) = some (1#2, 0#1, 0x01#8, 0#16) := by
  decide +kernel
/-- V-ILL-4: a valid reading under a reserved opcode is not verified. -/
theorem test_reserved_opcode :
    (resultsOf 0x8000007CBAEB).map (fun r => (r.rErr, r.rLastOp, r.rCrc, r.rOk)) = some (2#2, 0x80#8, 0#8, 0#1) := by
  decide +kernel

/-! ### Edges: V-TIM-1 to V-TIM-3, one row each, and R109, R114 -/

/-- V-TIM-1, edge 2. -/
theorem test_unit_latency : sequencing (offering 0 0x0700007CBAEB#48) = some (.idle, 0, 1#1, 0x07#8) := by decide +kernel
/-- V-TIM-3, edge 2. -/
theorem test_accept_at_three : sequencing (offering 2 0x0700007CBAEB#48) = some (.busy, 2, 0#1, 0x00#8) := by decide +kernel
/-- V-TIM-3, edge 3. -/
theorem test_count_down : sequencing (pendingBlock 2 Pins.quiet) = some (.busy, 1, 0#1, 0x00#8) := by decide +kernel
/-- V-TIM-2, edge 3: a word offered while busy is not taken. -/
theorem test_offer_while_busy :
    sequencing (pendingBlock 1 (Pins.offer 0x0800007CBAEB#48)) = some (.idle, 0, 1#1, 0x07#8) := by decide +kernel
/-- V-TIM-3, edge 4: reset wins over the completion. -/
theorem test_reset_wins : sequencing (pendingBlock 1 Pins.resetting) = some (.idle, 0, 0#1, 0x00#8) := by decide +kernel
/-- V-TIM-1, edge 4: no offer, `done` falls, the results hold. -/
theorem test_quiet_edge :
    sequencing { State.reset with done := 1#1, results := { Results.zero with rLastOp := 0x08#8 } } =
      some (.idle, 0, 0#1, 0x08#8) := by decide
theorem test_ready_in_idle : State.reset.cmdReady = .high := by decide
theorem test_not_ready_in_reset : ({ State.reset with inputs := [Pins.resetting] } : State).cmdReady = .low := by decide
theorem test_unknown_rst_refused :
    refusalOf (pendingBlock 1 { Pins.quiet with rst := .unknown }) = some (.unknownInput .rst) := by decide
theorem test_unknown_cmd_refused :
    refusalOf { State.reset with inputs := [{ Pins.offer 0#48 with cmd := .unknown }] } = some (.unknownInput .cmd) := by
  decide
theorem test_unknown_offer_while_busy_not_read :
    refusalOf (pendingBlock 2 { rst := .low, cmdValid := .unknown, cmd := .unknown }) = none := by decide
/-- R109, R110: a block that was never reset leaves its unspecified state at its first reset edge. -/
theorem test_power_on_reset :
    step (State.powerOn Config.Params.reference [Pins.resetting] 0) = .next { State.reset with draws := 1 } := rfl

/-! ### Witnesses: for each statement with hypotheses, an instance that meets them all. A statement whose hypotheses are
met by an instance named above is listed at the end of this section. -/

theorem witness_DecodedWordsEncodeBackUpToIgnoredBits :
    decode 0x0112347CBA55#48 = .command (.crcgen 0x7CBA#16) := by decide
theorem witness_DecodingIsTotalFromTheOpcodeAlone :
    decode 0x010000000000#48 = .command (.crcgen 0#16) ∧ decode 0x01FFFFFFFFFF#48 = .command (.crcgen 0xFFFF#16) ∧
      opOf 0x010000000000#48 = opOf 0x01FFFFFFFFFF#48 := by decide
theorem witness_CommandBytesAreBigEndian : ([] : List Byte).length ≠ 6 ∧ (List.replicate 7 (0#8 : Byte)).length ≠ 6 := by
  decide
theorem witness_AssemblerFormsGiveTheirFields :
    ((-1 : Int) < 0 ∧ (0xFFFF : Int) < 65536) ∧ ((0xFF : Int) < 256) ∧ ((2 : Int) ^ 48 - 1 < 281474976710656) := by decide
theorem witness_PseudoInstructionsAreTheirExpansions :
    numberOf "0x3A".toList = .ok 58 ∧ numberOf "255".toList = .ok 255 ∧ numberOf "-1".toList = .ok (-1) ∧
      "RH8_T13".toList ∉ ["RH12_T14".toList, "RH8_T12".toList, "RH10_T13".toList, "RH11_T11".toList] := by decide +kernel
theorem witness_DivisorSlidesWithTheIteration : 0 < 16 ∧ 15 < 16 ∧ 23 - 15 < 9 ∧ 14 < 15 - 0 := by decide
theorem witness_DivisionIsLinearAndClearsTheHighBits :
    15 < 16 ∧ (0x7CBAEB#24).extractLsb' 8 16 = (0x7CBA00#24).extractLsb' 8 16 := by decide
theorem witness_ComputedCheckValueVerifies :
    ∃ t t', exec (.crcchk 0x7CBA#16 0xEB#8) State.reset = .next t ∧
      exec (.crcchk 0x7CBA#16 0xEB#8) (offering 1 0#48) = .next t' := ⟨_, _, rfl, rfl⟩
theorem witness_ChangesOfUpToThreeBitsAreDetected : 0 < 24 ∧ 23 < 24 ∧ valid 0x7CBA#16 0xEB#8 = true := by decide +kernel
theorem witness_opcode_bytes :
    opOf 0x010000000000#48 = 0x01#8 ∧ opOf 0x02FFFFFFFFFF#48 = 0x02#8 ∧ opOf 0x030000000000#48 = 0x03#8 ∧
      opOf 0x04FFFFFFFFFF#48 = 0x04#8 ∧ opOf 0x050000000000#48 = 0x05#8 ∧ opOf 0x06FFFFFFFFFF#48 = 0x06#8 ∧
      opOf 0x070000000000#48 = 0x07#8 ∧ opOf 0x08FFFFFFFFFF#48 = 0x08#8 := by decide
theorem witness_masked_reading : (0xFFFC#16 : Half) = 0xFFFF#16 &&& 0xFFFC#16 := by decide
theorem witness_measurement_verified :
    div24 (0x7C#8 ++ 0xBA#8 ++ 0xEB#8) = 0#24 ∧ (0x7CB8#16 : Half) = (0x7C#8 ++ 0xBA#8) &&& 0xFFFC#16 := by decide +kernel
theorem witness_measurement_failed : div24 (0x7C#8 ++ 0xBA#8 ++ 0xEA#8) ≠ 0#24 := by decide +kernel
theorem witness_MeastVerifiesThenConverts_flip :
    23 < 24 ∧ div24 (0x7C#8 ++ 0xBA#8 ++ 0xEB#8) = 0#24 ∧
      (0xFC#8 ++ 0xBA#8 ++ 0xEB#8 : Reading) = (0x7C#8 ++ 0xBA#8 ++ 0xEB#8) ^^^ (1#24 <<< 23) := by decide +kernel
theorem witness_ReservedOpcodesCompleteWithIllegalOp :
    reservedOpcode ((0x000000000000#48).extractLsb' 40 8) ∧ reservedOpcode ((0x090000000000#48).extractLsb' 40 8) ∧
      reservedOpcode ((0xFF0000000000#48).extractLsb' 40 8) := by
  refine ⟨.inl (by decide), .inr (by decide), .inr (by decide)⟩
theorem witness_reserved_opcode_edges :
    (offering 1 0x090000000000#48).Accepting 0x090000000000#48 ∧ (offering 1 0x090000000000#48).params.lat ≠ 1 ∧
      (offering 0 0x090000000000#48).Completing 0x090000000000#48 :=
  ⟨⟨rfl, rfl, rfl, rfl, rfl⟩, by decide, .inl ⟨⟨rfl, rfl, rfl, rfl, rfl⟩, rfl⟩⟩
theorem witness_completions_answer_next :
    (∃ t, completeWord 0x0700007CBAEA#48 State.reset = .next t ∧ t.results.rErr = 1#2) ∧
      (∃ t, completeWord 0x090000000000#48 State.reset = .next t ∧ t.results.rErr = 2#2) :=
  ⟨⟨_, rfl, by decide +kernel⟩, ⟨_, rfl, by decide⟩⟩
theorem witness_SentinelsAreNeverAReading :
    crc8 (0x7C#8 ++ 0xBA#8) ≠ 0xEA#8 ∧ crc8 (0x7C#8 ++ 0xBA#8) = 0xEB#8 := by decide +kernel
/-- The values of V-MEA-10's remark: 0x89 fits the masked 0x7CB8. -/
theorem witness_VerificationPrecedesMasking :
    status (0x7C#8 ++ 0xBA#8) ≠ 0#2 ∧ valid (maskRaw (0x7C#8 ++ 0xBA#8)) 0x89#8 = true := by decide +kernel
theorem witness_StatusBitsNeverInfluenceAConversion : (0x0000#16 : Half) &&& 0xFFFC#16 = 0x0003#16 &&& 0xFFFC#16 := by
  decide
theorem witness_ConversionsNeverOverflow :
    (0xFFFF#16 : Half).toNat = (0xFFFE#16 : Half).toNat + 1 ∧ (0x0004#16 : Half).toNat = (0x0000#16 : Half).toNat + 4 := by
  decide
theorem witness_CentiRoundsTowardMinusInfinity :
    (-2147483648 : Int) ≤ -2147483648 ∧ (-2147483648 : Int) ≤ 2147483647 := by decide
theorem witness_accepting_unit_latency :
    (offering 0 0x0700007CBAEB#48).Accepting 0x0700007CBAEB#48 ∧ (offering 0 0x0700007CBAEB#48).params.lat = 1 ∧
      decode 0x0700007CBAEB#48 = .command (.meast 0x7C#8 0xBA#8 0xEB#8) ∧
      (offering 0 0x000000000000#48).Accepting 0x000000000000#48 ∧ decode 0x000000000000#48 = .reserved 0x00#8 :=
  ⟨⟨rfl, rfl, rfl, rfl, rfl⟩, rfl, by decide, ⟨rfl, rfl, rfl, rfl, rfl⟩, by decide⟩
theorem witness_accepting_longer_latency :
    (offering 1 0x0700007CBAEB#48).Accepting 0x0700007CBAEB#48 ∧ (offering 1 0x0700007CBAEB#48).params.lat ≠ 1 :=
  ⟨⟨rfl, rfl, rfl, rfl, rfl⟩, by decide⟩
theorem witness_finishing :
    (pendingBlock 1 Pins.quiet).Finishing 0x0700007CBAEB#48 ∧
      ({ pendingBlock 1 Pins.quiet with pend := 0x090000000000#48 } : State).Finishing 0x090000000000#48 ∧
      decode 0x090000000000#48 = .reserved 0x09#8 :=
  ⟨⟨rfl, rfl, rfl, rfl, rfl⟩, ⟨rfl, rfl, rfl, rfl, rfl⟩, by decide⟩
theorem witness_completing :
    (offering 0 0x0700007CBAEB#48).Completing 0x0700007CBAEB#48 ∧
      (pendingBlock 1 Pins.quiet).Completing 0x0700007CBAEB#48 :=
  ⟨.inl ⟨⟨rfl, rfl, rfl, rfl, rfl⟩, rfl⟩, .inr ⟨rfl, rfl, rfl, rfl, rfl⟩⟩
theorem witness_PlacedWordRunsInTheNextStep :
    (0x0700007CBAEB : Nat) < 2 ^ 48 ∧ decode (BitVec.ofNat 48 0x0700007CBAEB) = .command (.meast 0x7C#8 0xBA#8 0xEB#8) := by
  decide
theorem witness_ClockEdgeFollowsTheCycleRule :
    State.reset.power = .operating ∧ State.reset.pins.rst = .low ∧ State.reset.phase = .idle ∧
      State.reset.pins.cmdValid = .low ∧ (pendingBlock 1 Pins.quiet).pins.rst = .low ∧
      (pendingBlock 1 Pins.quiet).phase = .busy ∧ (pendingBlock 1 Pins.quiet).cnt = 1 ∧
      (pendingBlock 2 Pins.quiet).cnt ≠ 1 := by decide
theorem witness_reset_edge : (pendingBlock 1 Pins.resetting).pins.rst = .high ∧
    (pendingBlock 1 Pins.resetting).power = .operating ∧
    ∃ t, step (pendingBlock 1 Pins.resetting) = .next t ∧ t.pins.rst = .low :=
  ⟨rfl, rfl, _, rfl, rfl⟩
/-- One instance of each alternative, each with equal `rst`: reset, unreset, busy, no offer in either. -/
theorem witness_OffersAreReadOnlyWhenReady :
    (Pins.resetting.rst = ({ Pins.offer 0#48 with rst := .high } : Pins).rst ∧ Pins.resetting.rst ≠ .low) ∧
      (Pins.quiet.rst = (Pins.offer 0x0800007CBAEB#48).rst ∧
        (State.powerOn Config.Params.reference [Pins.quiet] 0).power = .unreset) ∧
      (Pins.quiet.rst = (Pins.offer 0x0800007CBAEB#48).rst ∧ (pendingBlock 1 Pins.quiet).phase = .busy) ∧
      (Pins.quiet.rst = ({ Pins.quiet with cmd := .unknown } : Pins).rst ∧ State.reset.power = .operating ∧
        State.reset.phase = .idle ∧ Pins.quiet.cmdValid = .low ∧
        ({ Pins.quiet with cmd := .unknown } : Pins).cmdValid = .low) :=
  ⟨⟨rfl, by decide⟩, ⟨rfl, rfl⟩, ⟨rfl, rfl⟩, rfl, rfl, rfl, rfl, rfl⟩
theorem witness_OutputPortsFollowTheState :
    State.reset.power = .operating ∧ State.reset.pins.rst ≠ .unknown := by decide
theorem witness_DonePulsesAfterEachCompletingEdge :
    (offering 0 0x0700007CBAEB#48).power = .operating ∧ ∃ t, step (offering 0 0x0700007CBAEB#48) = .next t ∧ t.done = 1#1 :=
  ⟨rfl, _, rfl, rfl⟩
theorem witness_ResultsHoldBetweenCompletions :
    (pendingBlock 2 Pins.quiet).power = .operating ∧ (∃ t, step (pendingBlock 2 Pins.quiet) = .next t) ∧
      (pendingBlock 2 Pins.quiet).pins.rst ≠ .high ∧ ¬ ∃ w, (pendingBlock 2 Pins.quiet).Completing w := by
  refine ⟨rfl, ⟨_, rfl⟩, by decide, ?_⟩
  rintro ⟨w, ⟨ha, -⟩ | hf⟩
  · exact absurd ha.idle (by decide)
  · exact absurd hf.last (by decide)
theorem witness_AcceptedWordCompletesAfterLatEdges :
    (offering 2 0x0700007CBAEB#48).Accepting 0x0700007CBAEB#48 ∧
      (∀ p ∈ ((offering 2 0x0700007CBAEB#48).inputs.drop 1).take ((offering 2 0x0700007CBAEB#48).params.lat - 1),
        p.rst = .low) ∧ 1 ≤ 2 ∧ 2 < (offering 2 0x0700007CBAEB#48).params.lat :=
  ⟨⟨rfl, rfl, rfl, rfl, rfl⟩, by decide, by decide, by decide⟩
theorem witness_BackToBackCommandsWithUnitLatency :
    ({ State.reset with inputs := [Pins.offer 0x0700007CBAEB#48, Pins.offer 0x0800007CBAEB#48] } : State).inputs =
      Pins.offer 0x0700007CBAEB#48 :: Pins.offer 0x0800007CBAEB#48 :: [] ∧ State.reset.power = .operating ∧
      State.reset.phase = .idle ∧ State.reset.params.lat = 1 := by decide
theorem witness_UnresetBlockWaitsForReset :
    (State.powerOn Config.Params.reference [Pins.offer 0#48] 0).power = .unreset ∧
      (State.powerOn Config.Params.reference [Pins.offer 0#48] 0).pins.rst = .low := ⟨rfl, rfl⟩
theorem witness_EveryStepKeepsTheParameter :
    ∃ t, step (pendingBlock 2 Pins.quiet) = .next t ∧ (pendingBlock 2 Pins.quiet).power = .operating := ⟨_, rfl, rfl⟩
/-- A busy block, not the reset state, that meets the invariant, and its next state. -/
theorem witness_EveryStepKeepsTheInvariant :
    (pendingBlock 2 Pins.quiet).Inv ∧ ∃ t, step (pendingBlock 2 Pins.quiet) = .next t := by
  refine ⟨⟨⟨?_, ?_, ?_⟩, fun _ => ?_⟩, _, rfl⟩
  · intro _ h; exact absurd h (by decide)
  · intro _ _; decide
  · intro _ _; rfl
  · constructor <;> simp [pendingBlock, State.reset, Results.zero, Config.maskStat]
theorem witness_ReadyWheneverNotBusy :
    ({ State.reset with done := 1#1 } : State).Inv ∧ ({ State.reset with done := 1#1 } : State).power = .operating ∧
      ({ State.reset with done := 1#1 } : State).params.lat = 1 ∧
      ({ State.reset with done := 1#1 } : State).pins.rst = .low := by
  refine ⟨⟨⟨?_, ?_, ?_⟩, fun _ => ?_⟩, rfl, rfl, rfl⟩
  · intro _ _; rfl
  · intro _ h; exact absurd h (by decide)
  · intro _ h; exact absurd h (by decide)
  · constructor <;> simp [State.reset, Results.zero, Config.maskStat]
theorem witness_ResultsAlwaysBelongToOneWord :
    State.reset.power = .operating ∧ (pendingBlock 2 Pins.quiet).results.OfOneWord ∧
      ∃ t, step (pendingBlock 2 Pins.quiet) = .next t := ⟨rfl, .inl rfl, _, rfl⟩

/-! Met by instances above: CrcgenWritesTheCheckValue to
MeasrhVerifiesThenConverts by `witness_opcode_bytes`, `witness_masked_reading` and the three `witness_measurement_…`
and `…_flip`; ErrorCodesAriseFromTheirCauses and CompletedCommandsAreToldFromReset by
`witness_completions_answer_next`; StepRunsTheDecodedCommand by `witness_accepting_…` and `witness_finishing`;
ResetWinsAtEveryEdge and OneResetEdgeMakesTheBlockReady by `witness_reset_edge`; CompletingEdgeWritesItsOwnWord by
`witness_completing`. -/

end Sys2Proof.Tests
end

section
/-! PROOFS. The statements of 00_scope.md: the parameter, the inputs and the power state along every step. -/

namespace Sys2Proof.Machine

/-- Inversion of a word's completion, for use on the completing branches of `step_cases`. -/
theorem eq_complete_of_completeWord {s t : State} {w : CmdWord} (h : completeWord w s = .next t) :
    ∃ r, t = s.complete r := by
  obtain ⟨r, hr⟩ := completeWord_completes w s
  rw [hr] at h
  cases h
  exact ⟨r, rfl⟩

/-- Settles O51, branch by branch of the clock edge: each starts from `s.edge`, which spends one cycle of inputs, and
only the reset edge writes `power`, to `operating` (R13, R34, R104). -/
theorem everyStepKeepsTheParameter : Obligations.EveryStepKeepsTheParameter := by
  intro s t h
  obtain ⟨-, rfl⟩ | ⟨-, -, rfl⟩ | ⟨-, -, -, -, rfl⟩ | ⟨w, -, -, rfl⟩ | ⟨w, -, -, hw⟩ | ⟨-, -, -, -, rfl⟩ | ⟨w, -, hw⟩ :=
    step_cases h
  · simp -- reset
  · simp -- unreset
  · simp -- idle, nothing offered
  · simp -- accepting, `LAT >= 2`
  · obtain ⟨r, rfl⟩ := eq_complete_of_completeWord hw -- accepting and completing, `LAT == 1`
    simp
  · simp -- busy, counting down
  · obtain ⟨r, rfl⟩ := eq_complete_of_completeWord hw -- finishing
    simp

end Sys2Proof.Machine
end

section
/-! PROOFS. The statements of 10_state.md: the result set of a word, the output ports and the reset state. -/

namespace Sys2Proof.Machine

variable {s t : State} {w : CmdWord}

/-! ### One result set per word -/

/-- No command reads the state: `exec_completes` with the result set chosen before the state (R25). -/
theorem exec_writes_one_result_set (i : Instr) : ∃ r, ∀ s, exec i s = .next (s.complete r) := by
  cases i <;> exact ⟨_, fun _ => rfl⟩

/-- `completeWord_completes` with the result set chosen before the state (R25). -/
theorem completeWord_writes_one_result_set (w : CmdWord) : ∃ r, ∀ s, completeWord w s = .next (s.complete r) := by
  cases h : decode w with
  | command i => simpa only [completeWord_of_command h] using exec_writes_one_result_set i
  | reserved op => exact ⟨_, completeWord_of_reserved h⟩

/-- Settles O24: `State.complete` is the update that the statement writes out. -/
theorem resultSetIsAFunctionOfTheWord : Obligations.ResultSetIsAFunctionOfTheWord :=
  completeWord_writes_one_result_set

/-- Whatever state a word completes from, its results are those it has from reset. -/
theorem ofOneWord_of_completeWord (h : completeWord w s = .next t) : t.results.OfOneWord := by
  obtain ⟨r, hr⟩ := completeWord_writes_one_result_set w
  rw [hr s] at h
  cases h
  exact .inr ⟨w, State.reset.complete r, hr State.reset, rfl⟩

/-- Settles O55, branch by branch of the clock edge: a reset edge zeroes the results, a completing edge writes its
word's result set, and every other edge of an operating block holds them (R24, R45). -/
theorem resultsAlwaysBelongToOneWord : Obligations.ResultsAlwaysBelongToOneWord := by
  refine ⟨.inl rfl, fun s t hpower hold h => ?_⟩
  obtain ⟨-, rfl⟩ | ⟨-, hunreset, -⟩ | ⟨-, -, -, -, rfl⟩ | ⟨w, -, -, rfl⟩ | ⟨w, -, -, hw⟩ | ⟨-, -, -, -, rfl⟩ |
    ⟨w, -, hw⟩ := step_cases h
  · exact .inl rfl -- reset
  · simp [hpower] at hunreset -- unreset
  · exact hold -- idle, nothing offered
  · exact hold -- accepting, `LAT >= 2`
  · exact ofOneWord_of_completeWord hw -- accepting and completing, `LAT == 1`
  · exact hold -- busy, counting down
  · exact ofOneWord_of_completeWord hw -- finishing

/-! ### `R_LASTOP` and `R_ERR` after a completion -/

/-- Neither outcome of a measurement writes `R_LASTOP`. -/
@[simp] theorem Results.measure_rLastOp (q : Quantity) (a : Reading) (r : Results) :
    (r.measure q a).rLastOp = r.rLastOp := by
  cases hv : verdict a with
  | true => simp [Results.measure_of_verified hv]
  | false => simp [Results.measure_of_failed hv]

/-- A completed command leaves its own opcode in `R_LASTOP` (R24). -/
theorem rLastOp_of_exec {i : Instr} (h : exec i s = .next t) : t.results.rLastOp = i.opcode := by
  cases i <;> cases h
  case meast => exact Results.measure_rLastOp ..
  case measrh => exact Results.measure_rLastOp ..
  all_goals rfl

/-- `0x00` selects no command (R54). -/
theorem opcode_ne_zero (i : Instr) : i.opcode ≠ 0x00#8 := by
  cases i <;> simp [Instr.opcode]

/-- A reserved opcode leaves ILLEGAL_OP (R90). -/
theorem rErr_of_execReserved {op : Byte} (h : execReserved op s = .next t) : t.results.rErr = 2#2 := by
  cases h
  rfl

/-- Settles O28: a command leaves its non-zero opcode in `R_LASTOP`, a reserved word leaves `R_ERR = 2` (R34). -/
theorem completedCommandsAreToldFromReset : Obligations.CompletedCommandsAreToldFromReset := by
  rintro w s t h ⟨hop, herr⟩
  cases hd : decode w with
  | command i =>
    rw [completeWord_of_command hd] at h
    exact opcode_ne_zero i ((rLastOp_of_exec h).symm.trans hop)
  | reserved op =>
    rw [completeWord_of_reserved hd] at h
    simp [rErr_of_execReserved h] at herr

/-! ### The output ports -/

theorem cmdReady_of_busy (hp : s.power = .operating) (hf : s.phase = .busy) : s.cmdReady = .low := by
  simp [State.cmdReady, hp, hf]

theorem cmdReady_of_idle_reset (hp : s.power = .operating) (hf : s.phase = .idle) (hr : s.pins.rst = .high) :
    s.cmdReady = .low := by
  simp [State.cmdReady, hp, hf, hr]

theorem cmdReady_of_idle (hp : s.power = .operating) (hf : s.phase = .idle) (hr : s.pins.rst = .low) :
    s.cmdReady = .high := by
  simp [State.cmdReady, hp, hf, hr]

theorem cmdReady_of_idle_unknown (hp : s.power = .operating) (hf : s.phase = .idle) (hr : s.pins.rst = .unknown) :
    s.cmdReady = .unknown := by
  simp [State.cmdReady, hp, hf, hr]

/-- `cmd_ready = (phase == IDLE) & (rst == 0)` of an operating block (R22). -/
theorem cmdReady_high_iff (hp : s.power = .operating) :
    s.cmdReady = .high ↔ s.phase = .idle ∧ s.pins.rst = .low := by
  cases hf : s.phase with
  | busy => simp [cmdReady_of_busy hp hf]
  | idle =>
    cases hr : s.pins.rst with
    | low => simp [cmdReady_of_idle hp hf hr]
    | high => simp [cmdReady_of_idle_reset hp hf hr]
    | unknown => simp [cmdReady_of_idle_unknown hp hf hr]

/-- With `rst` known, `cmd_ready` of an operating block is known. -/
theorem cmdReady_low_iff (hp : s.power = .operating) (hr : s.pins.rst ≠ .unknown) :
    s.cmdReady = .low ↔ ¬ (s.phase = .idle ∧ s.pins.rst = .low) := by
  cases hf : s.phase with
  | busy => simp [cmdReady_of_busy hp hf]
  | idle =>
    cases hrst : s.pins.rst with
    | low => simp [cmdReady_of_idle hp hf hrst]
    | high => simp [cmdReady_of_idle_reset hp hf hrst]
    | unknown => exact absurd hrst hr

/-- Settles O43: the register outputs are the registers by definition; `cmd_ready` is the two lemmas above (R22). -/
theorem outputPortsFollowTheState : Obligations.OutputPortsFollowTheState :=
  fun _ => ⟨rfl, rfl, cmdReady_high_iff, cmdReady_low_iff⟩

/-! ### The reset state -/

/-- The results of reset are consistent: no error, no verdict, no reading, nothing merged. -/
theorem Results.zero_consistent : Results.zero.Consistent where
  errCode := by decide
  masked := by decide
  okRemainder := by decide
  failed := by decide
  illegal h := absurd h (by decide)
  centi := by decide
  regByMerge := by decide

/-- A block with `phase == IDLE` and `cnt == 0` is sequenced, whatever else it holds. -/
theorem State.sequenced_of_idle (hf : s.phase = .idle) (hc : s.cnt = 0) : s.Sequenced where
  idleCount _ _ := hc
  busyCount _ hb := by simp [hf] at hb
  busyQuiet _ hb := by simp [hf] at hb

/-- Settles O52: the block is idle with nothing counted, and its results are all 0 (R34). -/
theorem resetStateMeetsTheInvariant : Obligations.ResetStateMeetsTheInvariant where
  sequenced := State.sequenced_of_idle rfl rfl
  consistent _ := Results.zero_consistent

end Sys2Proof.Machine
end

section
/-! PROOFS. The statements of 20_memory.md: byte order, and the results after a completing edge. -/

namespace Sys2Proof

/-! ### Words made byte by byte -/

/-- Above its last byte, a word written as bytes is the word of the bytes before it. -/
@[simp] theorem slice_append_byte_high {n : Nat} (x : BitVec n) (b : Byte) (k len : Nat) :
    (x ++ b).extractLsb' (k + 8) len = x.extractLsb' k len := by
  rw [Nat.add_comm k 8, slice_append_high]

@[simp] theorem slice_append_byte_low {n : Nat} (x : BitVec n) (b : Byte) : (x ++ b).extractLsb' 0 8 = b :=
  (slice_append_low x b 0 8 (by decide)).trans (slice_whole b)

/-- A byte appended is the least significant one, as a number. -/
theorem toNat_append_byte {n : Nat} (x : BitVec n) (b : Byte) : (x ++ b).toNat = x.toNat * 256 + b.toNat := by
  rw [BitVec.toNat_append, ← Nat.shiftLeft_add_eq_or_of_lt b.isLt, Nat.shiftLeft_eq]

theorem wordOfBytes_six (b0 b1 b2 b3 b4 b5 : Byte) :
    wordOfBytes [b0, b1, b2, b3, b4, b5] = .ok (b0 ++ b1 ++ b2 ++ b3 ++ b4 ++ b5) := rfl

/-- Each byte joins the slice of the bytes before it; the last one completes the word. -/
theorem wordOfBytes_bytesOfWord (w : CmdWord) : wordOfBytes (bytesOfWord w) = .ok w := by
  have hjoin (start len : Nat) :
      w.extractLsb' (start + 8) len ++ w.extractLsb' start 8 = w.extractLsb' start (len + 8) :=
    BitVec.extractLsb'_append_extractLsb'_eq_extractLsb' rfl
  rw [bytesOfWord, wordOfBytes_six, hjoin 32 8, hjoin 24 16, hjoin 16 24, hjoin 8 32, hjoin 0 40, slice_whole]

/-- Any number of bytes but six is rejected by its length (R57). -/
theorem wordOfBytes_wrongLength {bytes : List Byte} (h : bytes.length ≠ 6) :
    wordOfBytes bytes = .error (.wrongLength bytes.length) := by
  unfold wordOfBytes
  split
  · simp at h -- six bytes
  · rfl -- any other number

/-- Settles O5: each byte of the word is read off the concatenation, the last byte first (R38, R57). -/
theorem commandBytesAreBigEndian : Obligations.CommandBytesAreBigEndian := by
  refine ⟨fun b0 b1 b2 b3 b4 b5 => ⟨_, wordOfBytes_six .., ?_⟩, wordOfBytes_bytesOfWord,
    fun _ => wordOfBytes_wrongLength⟩
  have hop : (b0 ++ b1 ++ b2 ++ b3 ++ b4 ++ b5 : CmdWord).extractLsb' 40 8 = b0 := by simp
  refine ⟨hop, hop, ?_, ?_, ?_, ?_, ?_⟩ <;> simp

/-- Settles O6: `A` is the 16-bit value with the checksum byte appended (R37, R51). -/
theorem measurementBytesStandBigEndianInOperandA : Obligations.MeasurementBytesStandBigEndianInOperandA := by
  intro b0 b1 b2
  refine ⟨operandA_packWord .., operandA_packWord .., ?_, checksum8Of_append .., ?_⟩
  · rw [value16Of_append, toNat_append_byte]
  · rw [toNat_append_byte, toNat_append_byte]
    omega

end Sys2Proof

namespace Sys2Proof.Machine

variable {s : State} {w : CmdWord}

/-- A completing edge completes its word from an idle block: at its accepting edge when `LAT == 1`, else at its last
BUSY edge, which releases the block first (R104, log 9). -/
theorem step_completing (h : s.Completing w) : ∃ e : State, step s = completeWord w e ∧ e.phase = .idle := by
  obtain ⟨hacc, hlat⟩ | hfin := h
  · exact ⟨s.edge, by simp [step_accepting hacc, acceptWord, hlat], hacc.idle⟩
  · exact ⟨s.edge.release, step_finishing hfin, rfl⟩

/-- Settles O46: the word writes one result set whatever state it completes from, and `State.complete` pulses `done`
and keeps the phase (R45, R92). -/
theorem completingEdgeWritesItsOwnWord : Obligations.CompletingEdgeWritesItsOwnWord := by
  intro s w h
  obtain ⟨e, hstep, hidle⟩ := step_completing h
  obtain ⟨r, hr⟩ := completeWord_writes_one_result_set w
  exact ⟨e.complete r, State.reset.complete r, hstep.trans (hr e), hr State.reset, rfl, rfl, hidle⟩

end Sys2Proof.Machine
end

section
/-! PROOFS. The statements of 30_encoding.md: the decoder against the encoder, and the assembler's forms. -/

namespace Sys2Proof

open Machine

/-! ### The decoder, by the opcode -/

/-- The command of `i`'s form with its operands read from the word `w` (R51, R52). -/
def Instr.readFrom (i : Instr) (w : CmdWord) : Instr :=
  match i with
  | .crcgen _ => .crcgen (value16Of (operandA w))
  | .crcchk _ _ => .crcchk (value16Of (operandA w)) (checksum8Of (operandA w))
  | .regmerge _ _ => .regmerge (oldOf (operandB w)) (registerBitsOf (operandB w))
  | .extract _ => .extract (value16Of (operandA w))
  | .convt _ => .convt (value16Of (operandA w))
  | .convrh _ => .convrh (value16Of (operandA w))
  | .meast _ _ _ => .meast (byte0Of (operandA w)) (byte1Of (operandA w)) (byte2Of (operandA w))
  | .measrh _ _ _ => .measrh (byte0Of (operandA w)) (byte1Of (operandA w)) (byte2Of (operandA w))

@[simp] theorem Instr.opcode_readFrom (i : Instr) (w : CmdWord) : (i.readFrom w).opcode = i.opcode := by
  cases i <;> rfl

/-- No operand of a command is illegal (R55). -/
theorem Instr.wellFormed_eq_true (i : Instr) : i.wellFormed = true := by
  cases i <;> rfl

/-- The decoder on an assigned opcode: it selects the form, the operands are read from the word (R54). -/
theorem decode_of_opcode {w : CmdWord} {i : Instr} (h : opOf w = i.opcode) : decode w = .command (i.readFrom w) := by
  cases i <;> simp [decode, h, Instr.opcode, Instr.readFrom]

theorem reservedOpcode_iff_toNat (op : Byte) : reservedOpcode op ↔ op.toNat = 0 ∨ 9 ≤ op.toNat := by
  simp [reservedOpcode, BitVec.le_def, ← BitVec.toNat_inj]

/-- The decoder on a reserved opcode (R56). -/
theorem decode_of_reservedOpcode {w : CmdWord} (h : reservedOpcode (opOf w)) : decode w = .reserved (opOf w) := by
  rw [reservedOpcode_iff_toNat] at h
  unfold decode
  split
  case h_9 => rfl
  all_goals omega

/-- Every opcode that is not reserved is a command's (R54). -/
theorem exists_opcode_eq {op : Byte} (h : ¬ reservedOpcode op) : ∃ i : Instr, i.opcode = op := by
  have hop : op = 0x01#8 ∨ op = 0x02#8 ∨ op = 0x03#8 ∨ op = 0x04#8 ∨ op = 0x05#8 ∨ op = 0x06#8 ∨ op = 0x07#8 ∨
      op = 0x08#8 := by
    rw [reservedOpcode_iff_toNat] at h
    bv_omega
  obtain rfl | rfl | rfl | rfl | rfl | rfl | rfl | rfl := hop
  · exact ⟨.crcgen 0, rfl⟩
  · exact ⟨.crcchk 0 0, rfl⟩
  · exact ⟨.regmerge 0 0, rfl⟩
  · exact ⟨.extract 0, rfl⟩
  · exact ⟨.convt 0, rfl⟩
  · exact ⟨.convrh 0, rfl⟩
  · exact ⟨.meast 0 0 0, rfl⟩
  · exact ⟨.measrh 0 0 0, rfl⟩

/-- A word with an opcode that is not reserved is a command of that opcode. -/
theorem decode_of_not_reservedOpcode {w : CmdWord} (h : ¬ reservedOpcode (opOf w)) :
    ∃ i, decode w = .command i ∧ i.opcode = opOf w := by
  obtain ⟨i, hi⟩ := exists_opcode_eq h
  exact ⟨i.readFrom w, decode_of_opcode hi.symm, (i.opcode_readFrom w).trans hi⟩

/-- A word that decodes to a command has the command's opcode. -/
theorem opcode_of_decode {w : CmdWord} {i : Instr} (h : decode w = .command i) : i.opcode = opOf w := by
  by_cases hr : reservedOpcode (opOf w)
  · simp [decode_of_reservedOpcode hr] at h
  · obtain ⟨j, hj, hop⟩ := decode_of_not_reservedOpcode hr
    rw [hj] at h
    cases h
    exact hop

/-- Settles O3: the opcode is reserved or a command's, and the decoder goes by it alone (R55). -/
theorem decodingIsTotalFromTheOpcodeAlone : Obligations.DecodingIsTotalFromTheOpcodeAlone := by
  refine ⟨fun w => ?_, fun w w' i i' h h' hop => ?_⟩
  · by_cases hr : reservedOpcode (opOf w)
    · exact .inl ⟨hr, decode_of_reservedOpcode hr⟩
    · obtain ⟨i, hi, hop⟩ := decode_of_not_reservedOpcode hr
      exact .inr ⟨hr, i, hi, hop, i.wellFormed_eq_true⟩
  · rw [opcode_of_decode h, opcode_of_decode h', hop]

/-! ### The bits a command reads -/

/-- A mask that covers a slice leaves the slice as it is. -/
theorem slice_and_mask {n : Nat} {m : BitVec n} {k len : Nat} (hm : m.extractLsb' k len = BitVec.allOnes len)
    (w : BitVec n) : (w &&& m).extractLsb' k len = w.extractLsb' k len := by
  rw [BitVec.extractLsb'_and, hm, BitVec.and_allOnes]

/-- Every command reads its opcode. -/
theorem opOf_and_usedBits (i : Instr) (w : CmdWord) : opOf (w &&& i.usedBits) = opOf w := by
  have hmask : i.usedBits.extractLsb' 40 8 = BitVec.allOnes 8 := by cases i <;> simp [Instr.usedBits]
  exact slice_and_mask hmask w

/-- Form by form, the bits a command reads cover the slices its operands are read from (R53, R54). -/
theorem Instr.readFrom_and_usedBits (i : Instr) (w : CmdWord) : i.readFrom (w &&& i.usedBits) = i.readFrom w := by
  cases i <;>
    simp [Instr.readFrom, Instr.usedBits, operandA, operandB, value16Of, checksum8Of, byte0Of, byte1Of, byte2Of, oldOf,
      registerBitsOf, slice_and_mask]

/-- What stands under the complement of a mask is not seen through the mask. -/
theorem or_and_not_and {n : Nat} (w x m : BitVec n) : (w ||| (x &&& ~~~m)) &&& m = w &&& m := by
  ext i hi
  cases hm : m[i] <;> simp [hm]

/-- A command's own word gives its operands back. -/
theorem Instr.readFrom_encode (i : Instr) : i.readFrom (encode i) = i := by
  cases i <;>
    simp [Instr.readFrom, encode, Instr.fieldA, Instr.fieldB, byte0Of, byte1Of, byte2Of, oldOf, registerBitsOf]

/-- Words that agree on the bits `i` reads, one of them `i`'s own, decode to `i`. -/
theorem decode_of_agrees_encode {w : CmdWord} {i : Instr} (h : w &&& i.usedBits = encode i &&& i.usedBits) :
    decode w = .command i := by
  have hop : opOf w = i.opcode := by
    rw [← opOf_and_usedBits i, h, opOf_and_usedBits, encode, opOf_packWord]
  have hread : i.readFrom w = i := by
    rw [← i.readFrom_and_usedBits, h, i.readFrom_and_usedBits, i.readFrom_encode]
  rw [decode_of_opcode hop, hread]

/-- Settles O1: the ignored bits set from `x` do not reach the bits the command reads (R50, R53, R54). -/
theorem encodedCommandsDecodeToThemselves : Obligations.EncodedCommandsDecodeToThemselves :=
  fun i x => decode_of_agrees_encode (or_and_not_and (encode i) x i.usedBits)

/-! ### The assembler's forms -/

/-- A line that stands for a command gives the command's word if its operands fit (R58). -/
theorem assemble_of_instr {l : SourceLine} {i : Instr} (h : l.instr = some i) :
    assemble l = if l.wellFormed then .ok (encode i) else .error .operandOutOfRange := by
  have hword : l.word = encode i := by
    cases l <;> cases h <;> rfl
  rw [assemble, hword]

/-- The line of R58 that writes the command out, each operand as the number of its field. -/
def Instr.line : Instr → SourceLine
  | .crcgen v => .crcgen v.toNat
  | .crcchk v c => .crcchk v.toNat c.toNat
  | .regmerge old bits => .regmerge old.toNat bits.toNat
  | .extract r => .extract r.toNat
  | .convt r => .convt r.toNat
  | .convrh r => .convrh r.toNat
  | .meast b0 b1 b2 => .meast b0.toNat b1.toNat b2.toNat
  | .measrh b0 b1 b2 => .measrh b0.toNat b1.toNat b2.toNat

theorem Instr.line_wellFormed (i : Instr) : i.line.wellFormed = true := by
  cases i <;> simp [Instr.line, SourceLine.wellFormed]

/-- A number within its field is read back whole. -/
theorem Instr.line_instr (i : Instr) : i.line.instr = some i := by
  cases i <;> simp [Instr.line, SourceLine.instr]

/-- A command's own line assembles to its word. -/
theorem Instr.assemble_line (i : Instr) : assemble i.line = .ok (encode i) := by
  rw [assemble_of_instr i.line_instr, if_pos i.line_wellFormed]

theorem assemble_cmd (w : CmdWord) : assemble (.cmd w.toNat) = .ok w := by
  have hfit : (SourceLine.cmd w.toNat).wellFormed = true := by simp [SourceLine.wellFormed]
  rw [assemble_of_wellFormed hfit]
  simp [SourceLine.word]

theorem operandFits_half_eq_false {n : Int} (h : n < 0 ∨ 0xFFFF < n) : operandFits 16 n = false := by
  rw [operandFits_false_iff]
  omega

theorem operandFits_threeBytes_eq_false {b0 b1 b2 : Int}
    (h : b0 < 0 ∨ 0xFF < b0 ∨ b1 < 0 ∨ 0xFF < b1 ∨ b2 < 0 ∨ 0xFF < b2) :
    (operandFits 8 b0 && operandFits 8 b1 && operandFits 8 b2) = false := by
  simp only [Bool.and_eq_false_iff, operandFits_false_iff]
  omega

/-- Settles O7: a form with operands in range is the line of a command or a `.cmd` word; a line with an operand out of
range is not well formed (R58, R59). -/
theorem assemblerFormsGiveTheirFields : Obligations.AssemblerFormsGiveTheirFields := by
  refine ⟨fun v => (Instr.crcgen v).assemble_line, fun v c => (Instr.crcchk v c).assemble_line,
    fun old bits => (Instr.regmerge old bits).assemble_line, fun r => (Instr.extract r).assemble_line,
    fun r => (Instr.convt r).assemble_line, fun r => (Instr.convrh r).assemble_line,
    fun b0 b1 b2 => (Instr.meast b0 b1 b2).assemble_line, fun b0 b1 b2 => (Instr.measrh b0 b1 b2).assemble_line,
    assemble_cmd, ?crcgen, ?crcchk, ?regmerge, ?raw, ?threeBytes, ?cmd, ?setres⟩
  case crcgen =>
    exact fun v16 h => assemble_of_not_wellFormed (operandFits_half_eq_false h)
  case crcchk =>
    intro v16 c8 h
    apply assemble_of_not_wellFormed
    simp only [SourceLine.wellFormed, Bool.and_eq_false_iff, operandFits_false_iff]
    omega
  case regmerge =>
    intro old8 bits8 h
    apply assemble_of_not_wellFormed
    simp only [SourceLine.wellFormed, Bool.and_eq_false_iff, operandFits_false_iff]
    omega
  case raw =>
    intro raw16 h
    have hfit := operandFits_half_eq_false h
    exact ⟨assemble_of_not_wellFormed hfit, assemble_of_not_wellFormed hfit, assemble_of_not_wellFormed hfit⟩
  case threeBytes =>
    intro b0 b1 b2 h
    have hfit := operandFits_threeBytes_eq_false h
    exact ⟨assemble_of_not_wellFormed hfit, assemble_of_not_wellFormed hfit, assemble_of_not_wellFormed hfit⟩
  case cmd =>
    intro w48 h
    apply assemble_of_not_wellFormed
    simp only [SourceLine.wellFormed, operandFits_false_iff]
    omega
  case setres =>
    intro old8 p h
    apply assemble_of_not_wellFormed
    simp only [SourceLine.wellFormed, operandFits_false_iff]
    omega

/-! ### The pseudo-instructions -/

/-- VERIFY is CRCCHK of its first two bytes, joined, and its third (R59). -/
theorem assemble_verify (b0 b1 b2 : Byte) :
    assemble (.verify b0.toNat b1.toNat b2.toNat) = assemble (.crcchk (b0 ++ b1).toNat b2.toNat) := by
  have hinstr : (SourceLine.verify b0.toNat b1.toNat b2.toNat).instr = some (.crcchk (b0 ++ b1) b2) := by
    simp [SourceLine.instr]
  rw [assemble_of_instr hinstr, if_pos (by simp [SourceLine.wellFormed])]
  exact (Instr.assemble_line (.crcchk (b0 ++ b1) b2)).symm

/-- SETRES is REGMERGE with its profile's byte, which always fits (R59). -/
theorem assemble_setres (old8 : Int) (p : Config.Profile) :
    assemble (.setres old8 p) = assemble (.regmerge old8 p.registerBits.toNat) := by
  have hinstr : (SourceLine.regmerge old8 p.registerBits.toNat).instr = (SourceLine.setres old8 p).instr := by
    simp [SourceLine.instr]
  have hfit : (SourceLine.regmerge old8 p.registerBits.toNat).wellFormed = (SourceLine.setres old8 p).wellFormed := by
    simp [SourceLine.wellFormed]
  rw [assemble_of_instr rfl, assemble_of_instr hinstr, hfit]

/-- A SETRES line whose number is read answers by its profile name. -/
theorem lineOf_setres_of_number {number : List Char} {old8 : Int} (h : numberOf number = .ok old8) (name : List Char) :
    lineOf "SETRES".toList [number, name] = (profileOf name).map (SourceLine.setres old8) := by
  rw [lineOf_setres, lineOfSetres, h]
  rfl

/-- The set of profile names is closed (R59). -/
theorem profileOf_unknown {name : List Char}
    (h : name ∉ ["RH12_T14".toList, "RH8_T12".toList, "RH10_T13".toList, "RH11_T11".toList]) :
    profileOf name = .error .unknownProfile := by
  simp only [List.mem_cons, List.not_mem_nil, or_false, not_or] at h
  obtain ⟨h1, h2, h3, h4⟩ := h
  rw [profileOf, if_neg h1, if_neg h2, if_neg h3, if_neg h4]

theorem profileOf_names :
    profileOf "RH12_T14".toList = .ok .rh12t14 ∧ profileOf "RH8_T12".toList = .ok .rh8t12 ∧
      profileOf "RH10_T13".toList = .ok .rh10t13 ∧ profileOf "RH11_T11".toList = .ok .rh11t11 := by
  simp [profileOf]

/-- With an unknown name it is no line, whether its number is read or not. -/
theorem lineOf_setres_ne_ok {name : List Char} (h : profileOf name = .error .unknownProfile) (number : List Char)
    (l : SourceLine) : lineOf "SETRES".toList [number, name] ≠ .ok l := by
  cases hn : numberOf number with
  | ok old8 =>
    rw [lineOf_setres_of_number hn, h]
    exact nofun
  | error e =>
    rw [lineOf_setres, lineOfSetres, hn]
    exact nofun

theorem lineOf_verify_of_numbers {a b c : List Char} {b0 b1 b2 : Int} (ha : numberOf a = .ok b0)
    (hb : numberOf b = .ok b1) (hc : numberOf c = .ok b2) :
    lineOf "VERIFY".toList [a, b, c] = .ok (.verify b0 b1 b2) := by
  rw [lineOf_verify, lineOf3, ha, hb, hc]
  rfl

/-- Settles O8: each pseudo-instruction assembles as the command it stands for, and a SETRES line goes by the closed set
of profile names (R59). -/
theorem pseudoInstructionsAreTheirExpansions : Obligations.PseudoInstructionsAreTheirExpansions := by
  refine ⟨assemble_verify, assemble_setres, rfl, rfl, rfl, rfl, ?accepted, ?refused,
    fun number name l h => lineOf_setres_ne_ok (profileOf_unknown h) number l,
    fun a b c b0 b1 b2 => lineOf_verify_of_numbers⟩
  case accepted =>
    intro number old8 h
    obtain ⟨h1, h2, h3, h4⟩ := profileOf_names
    simp only [lineOf_setres_of_number h, h1, h2, h3, h4]
    exact ⟨rfl, rfl, rfl, rfl⟩
  case refused =>
    intro number name old8 h hname
    rw [lineOf_setres_of_number h, profileOf_unknown hname]
    rfl

end Sys2Proof
end

section
/-! PROOFS. The statements of 40_crc.md: the division bit by bit, the checksum byte, the byte-serial form, and the two
checksum commands. -/

namespace Sys2Proof.Machine

open BitVec (twoPow)

variable {w : Reading} {k : Nat}

/-! ### Words as `{value, checksum}`: the library's lemmas on `++` at width 24, which is not spelt as a sum -/

theorem pair_getLsbD_checksum {j : Nat} (v : Half) (c : Byte) (hj : j < 8) :
    (v ++ c : Reading).getLsbD j = c.getLsbD j :=
  BitVec.getLsbD_append.trans (if_pos hj)

theorem pair_getLsbD_value {j : Nat} (v : Half) (c : Byte) (hj : 8 ≤ j) :
    (v ++ c : Reading).getLsbD j = v.getLsbD (j - 8) :=
  BitVec.getLsbD_append.trans (if_neg (by omega))

theorem pair_xor (v v' : Half) (c c' : Byte) :
    (v ++ c : Reading) ^^^ (v' ++ c' : Reading) = (v ^^^ v') ++ (c ^^^ c') := BitVec.xor_append

theorem value_append_checksum (w : Reading) : w.extractLsb' 8 16 ++ w.extractLsb' 0 8 = w :=
  (BitVec.extractLsb'_append_extractLsb'_eq_extractLsb' (by rfl)).trans (slice_whole w)

/-! ### The divisor (R60) -/

/-- The divisor does not depend on the word. -/
theorem div24After_divisor (w : Reading) (k : Nat) : (div24After w k).2 = Config.divisor0 >>> k := by
  induction k with
  | zero => rfl
  | succ k ih => rw [div24After_succ, ih, BitVec.shiftRight_add]

theorem divisor0_getLsbD_top : Config.divisor0.getLsbD 23 = true := rfl

/-- Below its constant term `DIVISOR0` is 0. -/
theorem divisor0_getLsbD_low {j : Nat} (h : j < 15) : Config.divisor0.getLsbD j = false := by
  decide +revert

/-- `DIVISOR0` is `POLY` shifted left by 15; without its top bit, `POLY` is `0x31` (R33, R64). -/
theorem divisor0_getLsbD_poly {j : Nat} (h : j < 8) : Config.divisor0.getLsbD (15 + j) = polyLow.getLsbD j := by
  decide +revert

/-- Settles O9: bit `j` of the shifted divisor is bit `k + j` of `DIVISOR0`, whose top bit is 23 and whose lowest is
15. -/
theorem divisorSlidesWithTheIteration : Obligations.DivisorSlidesWithTheIteration := by
  intro w k hk
  have hbit (j : Nat) : (0x988000#24 >>> k).getLsbD j = Config.divisor0.getLsbD (k + j) := BitVec.getLsbD_ushiftRight ..
  refine ⟨div24After_divisor w k, ?_, fun j hj => ?_, ?_, fun j hj => ?_⟩
  · rw [hbit, Nat.add_sub_cancel' (by omega)]
    rfl
  · rw [hbit, BitVec.getLsbD_of_ge _ _ (by omega)]
  · rw [hbit, Nat.add_sub_cancel' (by omega)]
    rfl
  · rw [hbit, divisor0_getLsbD_low (by omega)]

/-! ### The remainder, bit by bit (R61) -/

/-- One iteration on one bit: the divisor's bit is added if the decision bit is set. -/
theorem remainder_succ_getLsbD (w : Reading) (k j : Nat) :
    (div24After w (k + 1)).1.getLsbD j =
      ((div24After w k).1.getLsbD j ^^ ((div24After w k).1.getLsbD (23 - k) && Config.divisor0.getLsbD (k + j))) := by
  rw [div24After_succ, div24After_divisor]
  cases hd : (div24After w k).1.getLsbD (23 - k) <;> simp

/-- Bits that the iterations have passed are clear (R61 item 1). -/
theorem remainder_getLsbD_high {j : Nat} (hk : k ≤ 16) (hj : 24 ≤ j + k) :
    (div24After w k).1.getLsbD j = false := by
  induction k generalizing j with
  | zero => exact BitVec.getLsbD_of_ge _ _ hj
  | succ k ih =>
    rw [remainder_succ_getLsbD]
    obtain rfl | hne := eq_or_ne j (23 - k)
    · rw [Nat.add_sub_cancel' (by omega), divisor0_getLsbD_top, Bool.and_true, Bool.xor_self]
    · have habove : 24 ≤ k + j := by omega
      rw [ih (by omega) (by omega), BitVec.getLsbD_of_ge _ _ habove, Bool.and_false, Bool.xor_false]

/-- Bits that no divisor has reached are the word's. -/
theorem remainder_getLsbD_low {j : Nat} (hj : j + k < 16) : (div24After w k).1.getLsbD j = w.getLsbD j := by
  induction k with
  | zero => rfl
  | succ k ih =>
    rw [remainder_succ_getLsbD, ih (by omega), divisor0_getLsbD_low (by omega), Bool.and_false, Bool.xor_false]

/-- With every decision bit clear nothing is subtracted. -/
theorem remainder_eq_self (hw : ∀ i < k, w.getLsbD (23 - i) = false) : (div24After w k).1 = w := by
  induction k with
  | zero => rfl
  | succ k ih =>
    rw [div24After_succ, ih fun i hi => hw i (by omega), hw k (by omega)]
    rfl

/-- The remainder is linear over XOR after every iteration (R61 item 4). -/
theorem remainder_xor (w w' : Reading) (k : Nat) :
    (div24After (w ^^^ w') k).1 = (div24After w k).1 ^^^ (div24After w' k).1 := by
  induction k with
  | zero => rfl
  | succ k ih =>
    apply BitVec.eq_of_getLsbD_eq
    intro j _
    simp only [remainder_succ_getLsbD, ih, BitVec.getLsbD_xor, Bool.and_xor_distrib_right, Bool.xor_assoc,
      Bool.xor_left_comm]

theorem div24_xor (w w' : Reading) : div24 (w ^^^ w') = div24 w ^^^ div24 w' := remainder_xor w w' 16

theorem div24_high (w : Reading) : (div24 w).extractLsb' 8 16 = 0#16 := by
  apply BitVec.eq_of_getLsbD_eq
  intro j hj
  rw [BitVec.getLsbD_extractLsb', div24, remainder_getLsbD_high (by decide) (by omega)]
  simp

/-! ### The value and the checksum byte in the division (R61) -/

/-- A checksum byte never reaches a decision bit. -/
theorem remainder_checksum (c : Byte) (hk : k ≤ 16) : (div24After (0#16 ++ c) k).1 = 0#16 ++ c := by
  refine remainder_eq_self fun i hi => ?_
  rw [pair_getLsbD_value _ _ (by omega), BitVec.getLsbD_zero]

/-- The checksum byte is carried through the division unchanged. -/
theorem remainder_append (v : Half) (c : Byte) (hk : k ≤ 16) :
    (div24After (v ++ c) k).1 = (div24After (v ++ 0x00#8) k).1 ^^^ (0#16 ++ c) := by
  have hsplit : (v ++ c : Reading) = (v ++ 0x00#8) ^^^ (0#16 ++ c) := by
    rw [pair_xor, BitVec.xor_zero, BitVec.zero_xor]
  rw [hsplit, remainder_xor, remainder_checksum c hk]

/-- R61 item 2: the decision bits are those of the value. -/
theorem decision_append (v : Half) (c : Byte) (hk : k < 16) :
    (div24After (v ++ c) k).1.getLsbD (23 - k) = (div24After (v ++ 0x00#8) k).1.getLsbD (23 - k) := by
  rw [remainder_append v c hk.le, BitVec.getLsbD_xor, pair_getLsbD_value _ _ (by omega), BitVec.getLsbD_zero,
    Bool.xor_false]

/-- R61 item 3, with the zero-extension written as a concatenation. -/
theorem div24_append (v : Half) (c : Byte) : div24 (v ++ c) = 0#16 ++ (crc8 v ^^^ c) := by
  have hzero : div24 (v ++ 0x00#8) = 0#16 ++ crc8 v := by
    rw [← value_append_checksum (div24 (v ++ 0x00#8)), div24_high]
    rfl
  calc div24 (v ++ c) = div24 (v ++ 0x00#8) ^^^ (0#16 ++ c) := remainder_append v c le_rfl
    _ = 0#16 ++ (crc8 v ^^^ c) := by rw [hzero, pair_xor, BitVec.xor_zero]

theorem div24_append_eq_setWidth (v : Half) (c : Byte) : div24 (v ++ c) = (crc8 v ^^^ c).setWidth 24 := by
  rw [div24_append, BitVec.setWidth_eq_append (by decide)]
  rfl

/-- The remainder's low byte with a checksum byte in the word (R62). -/
theorem div24_append_low (v : Half) (c : Byte) : (div24 (v ++ c)).extractLsb' 0 8 = crc8 v ^^^ c := by
  rw [div24_append]
  exact checksum8Of_append 0#16 (crc8 v ^^^ c)

@[simp] theorem div24_zero : div24 0#24 = 0#24 := remainder_checksum 0x00#8 le_rfl

/-- Settles O10: the passed bits are clear, the value alone decides, and the division is linear (R61). -/
theorem divisionIsLinearAndClearsTheHighBits : Obligations.DivisionIsLinearAndClearsTheHighBits := by
  refine ⟨div24_high, fun w w' k hk h => ?_, div24_append_eq_setWidth, div24_xor, div24_zero⟩
  rw [← value_append_checksum w, ← value_append_checksum w', h]
  exact (decision_append _ _ hk).trans (decision_append _ _ hk).symm

/-! ### The verdict of a pair (R63) -/

/-- The remainder of a pair is 0 exactly when its check value is its checksum. -/
theorem div24_append_eq_zero_iff (v : Half) (c : Byte) : div24 (v ++ c) = 0#24 ↔ crc8 v = c := by
  have hzero : (0#24 : Reading) = 0#16 ++ 0x00#8 := rfl
  rw [div24_append, hzero, BitVec.append_right_inj, BitVec.xor_eq_zero_iff]

theorem valid_iff_div24 (v : Half) (c : Byte) : valid v c = true ↔ div24 (v ++ c) = 0#24 := verdict_iff (v ++ c)

theorem valid_iff_crc8 (v : Half) (c : Byte) : valid v c = true ↔ crc8 v = c :=
  (valid_iff_div24 v c).trans (div24_append_eq_zero_iff v c)

/-- Settles O11: both forms of R63's verdict. -/
theorem pairIsValidWhenTheCheckValueMatches : Obligations.PairIsValidWhenTheCheckValueMatches :=
  fun v c => ⟨valid_iff_div24 v c, valid_iff_crc8 v c⟩

/-! ### The byte-serial form (R64) -/

/-- The eight bits of the remainder after `k` iterations that the next divisors work on: the register of the byte-serial
form. -/
def window (w : Reading) (k : Nat) : Byte := (div24After w k).1.extractLsb' (16 - k) 8

theorem window_xor (w w' : Reading) (k : Nat) : window (w ^^^ w') k = window w k ^^^ window w' k := by
  rw [window, remainder_xor, BitVec.extractLsb'_xor]
  rfl

/-- After the last iteration the register is the check value. -/
theorem window_sixteen (v : Half) : window (v ++ 0x00#8) 16 = crc8 v := rfl

theorem crcBit_getLsbD (x : Byte) (j : Nat) :
    (crcBit x).getLsbD j = ((x <<< 1).getLsbD j ^^ (x.getLsbD 7 && polyLow.getLsbD j)) := by
  unfold crcBit
  cases x.getLsbD 7 <;> simp

theorem crcBits_succ (n : Nat) (x : Byte) : crcBits (n + 1) x = crcBit (crcBits n x) := by
  induction n generalizing x with
  | zero => rfl
  | succ n ih => exact ih (crcBit x)

theorem window_getLsbD {j : Nat} (hj : j < 8) : (window w k).getLsbD j = (div24After w k).1.getLsbD (16 - k + j) := by
  simp [window, hj]

/-- The register shifted by one, if the bit that enters it is 0. -/
theorem window_shiftLeft_getLsbD {j : Nat} (hk : k < 16) (hw : w.getLsbD (15 - k) = false) (hj : j < 8) :
    (window w k <<< 1).getLsbD j = (div24After w k).1.getLsbD (15 - k + j) := by
  cases j with
  | zero =>
    rw [Nat.add_zero, remainder_getLsbD_low (by omega), hw]
    simp
  | succ j =>
    have hbit : (window w k <<< 1).getLsbD (j + 1) = (window w k).getLsbD j := by
      simp [hj, show j < 8 by omega]
    rw [hbit, window_getLsbD (by omega)]
    congr 1
    omega

/-- One iteration is one bit of the byte-serial form, if the bit that enters the register is 0. -/
theorem window_succ (hk : k < 16) (hw : w.getLsbD (15 - k) = false) : window w (k + 1) = crcBit (window w k) := by
  apply BitVec.eq_of_getLsbD_eq
  intro j hj
  have hnext : 16 - (k + 1) + j = 15 - k + j := by omega
  have htop : 16 - k + 7 = 23 - k := by omega
  have hpoly : k + (15 - k + j) = 15 + j := by omega
  rw [window_getLsbD hj, hnext, remainder_succ_getLsbD, hpoly, divisor0_getLsbD_poly hj, crcBit_getLsbD,
    window_shiftLeft_getLsbD hk hw hj, window_getLsbD (by decide), htop]

/-- `n` iterations are `n` bits of the byte-serial form, if only zeros enter the register. -/
theorem window_add (n : Nat) (hn : k + n ≤ 16) (hw : ∀ j, j + k < 16 → w.getLsbD j = false) :
    window w (k + n) = crcBits n (window w k) := by
  induction n with
  | zero => rfl
  | succ n ih => rw [← Nat.add_assoc, window_succ (by omega) (hw _ (by omega)), ih (by omega), crcBits_succ]

/-- A word is the XOR of its parts under a mask and under the mask's complement. -/
theorem xor_and_not {n : Nat} (w m : BitVec n) : (w &&& m) ^^^ (w &&& ~~~m) = w := by
  ext i hi
  cases hm : m[i] <;> simp [hm]

/-- After eight iterations the first byte is worked off and the second has entered the register: the division is linear,
and the part of the word below its first byte has no decision bit among the eight. -/
theorem window_eight (w : Reading) : window w 8 = crcBits 8 (w.extractLsb' 16 8) ^^^ w.extractLsb' 8 8 := by
  have hsplit : (w &&& 0xFF0000#24) ^^^ (w &&& 0x00FFFF#24) = w := xor_and_not w 0xFF0000#24
  have hfirst : window (w &&& 0xFF0000#24) 8 = crcBits 8 (w.extractLsb' 16 8) := by
    have hlow (j : Nat) (hj : j < 16) : (0xFF0000#24).getLsbD j = false := by decide +revert
    rw [← slice_and_mask (m := 0xFF0000#24) (by decide) w]
    exact window_add (k := 0) 8 (by decide) fun j hj => by rw [BitVec.getLsbD_and, hlow j hj, Bool.and_false]
  have hsecond : window (w &&& 0x00FFFF#24) 8 = w.extractLsb' 8 8 := by
    have hhigh (i : Nat) (hi : i < 8) : (0x00FFFF#24).getLsbD (23 - i) = false := by decide +revert
    rw [window, remainder_eq_self fun i hi => by rw [BitVec.getLsbD_and, hhigh i hi, Bool.and_false]]
    exact slice_and_mask (by decide) w
  calc window w 8 = window (w &&& 0xFF0000#24) 8 ^^^ window (w &&& 0x00FFFF#24) 8 := by rw [← window_xor, hsplit]
    _ = crcBits 8 (w.extractLsb' 16 8) ^^^ w.extractLsb' 8 8 := by rw [hfirst, hsecond]

/-- Settles O12: eight bits for each byte, and after the value's two bytes only zeros enter the register (R64). -/
theorem byteSerialFormIsTheCheckValue : Obligations.ByteSerialFormIsTheCheckValue := by
  intro v
  have hserial : crc8Serial v = crcBits 8 (crcBits 8 (v.extractLsb' 8 8) ^^^ v.extractLsb' 0 8) := by
    simp [crc8Serial, crcSerial]
  have hfirst : (v ++ 0x00#8 : Reading).extractLsb' 16 8 = v.extractLsb' 8 8 := slice_append_byte_high v 0x00#8 8 8
  have hsecond : (v ++ 0x00#8 : Reading).extractLsb' 8 8 = v.extractLsb' 0 8 := slice_append_byte_high v 0x00#8 0 8
  have hzeros (j : Nat) (hj : j + 8 < 16) : (v ++ 0x00#8 : Reading).getLsbD j = false := by
    rw [pair_getLsbD_checksum _ _ (by omega), BitVec.getLsbD_zero]
  calc crc8Serial v = crcBits 8 (window (v ++ 0x00#8) 8) := by rw [hserial, window_eight, hfirst, hsecond]
    _ = window (v ++ 0x00#8) (8 + 8) := (window_add 8 le_rfl hzeros).symm
    _ = crc8 v := window_sixteen v

/-! ### Changed words (R66) -/

/-- A change of a valid word gives the change's own remainder. -/
theorem div24_change {a : Reading} (h : div24 a = 0#24) (e : Reading) : div24 (a ^^^ e) = div24 e := by
  rw [div24_xor, h, BitVec.zero_xor]

/-- Whether an odd number of the bits below `n` are set. -/
def oddBelow (w : Reading) : Nat → Bool
  | 0 => false
  | n + 1 => oddBelow w n ^^ w.getLsbD n

theorem oddBelow_xor (w w' : Reading) (n : Nat) : oddBelow (w ^^^ w') n = (oddBelow w n ^^ oddBelow w' n) := by
  induction n with
  | zero => rfl
  | succ n ih => simp only [oddBelow, ih, BitVec.getLsbD_xor, Bool.xor_assoc, Bool.xor_left_comm]

theorem oddBelow_twoPow {i : Nat} (hi : i < 24) : oddBelow (twoPow 24 i) 24 = true := by
  decide +revert

/-- `POLY` has four terms, and all of them stay in the register while the divisor slides. -/
theorem oddBelow_divisor (hk : k < 16) : oddBelow (Config.divisor0 >>> k) 24 = false := by
  decide +revert

/-- The division keeps the parity of the word. -/
theorem oddBelow_remainder (hk : k ≤ 16) : oddBelow (div24After w k).1 24 = oddBelow w 24 := by
  induction k with
  | zero => rfl
  | succ k ih =>
    rw [div24After_succ, div24After_divisor, ← ih (by omega)]
    cases (div24After w k).1.getLsbD (23 - k) with
    | false => rfl
    | true => simp only [if_true, oddBelow_xor, oddBelow_divisor hk, Bool.xor_false]

/-- An odd change leaves a remainder. -/
theorem div24_ne_zero_of_odd (h : oddBelow w 24 = true) : div24 w ≠ 0#24 := by
  intro hzero
  have hparity : oddBelow (div24 w) 24 = oddBelow w 24 := oddBelow_remainder le_rfl
  rw [hzero, h] at hparity
  exact absurd hparity (by decide)

/-- The 24 one-bit words have 24 different remainders. -/
theorem div24_twoPow_injective {i j : Nat} (hi : i < 24) (hj : j < 24) (h : div24 (twoPow 24 i) = div24 (twoPow 24 j)) :
    i = j := by
  have hall : ∀ i < 24, ∀ j < 24, div24 (twoPow 24 i) = div24 (twoPow 24 j) → i = j := by decide +kernel
  exact hall i hi j hj h

/-- A change of two bits leaves a remainder. -/
theorem div24_ne_zero_of_two {i j : Nat} (hi : i < 24) (hj : j < 24) (hne : i ≠ j) :
    div24 (twoPow 24 i ^^^ twoPow 24 j) ≠ 0#24 := by
  intro h
  rw [div24_xor, BitVec.xor_eq_zero_iff] at h
  exact hne (div24_twoPow_injective hi hj h)

/-- A change of one bit leaves a remainder. -/
theorem div24_ne_zero_of_one {i : Nat} (hi : i < 24) : div24 (twoPow 24 i) ≠ 0#24 :=
  div24_ne_zero_of_odd (oddBelow_twoPow hi)

/-- A change of three bits leaves a remainder. -/
theorem div24_ne_zero_of_three {i j k : Nat} (hi : i < 24) (hj : j < 24) (hk : k < 24) :
    div24 (twoPow 24 i ^^^ twoPow 24 j ^^^ twoPow 24 k) ≠ 0#24 := by
  apply div24_ne_zero_of_odd
  rw [oddBelow_xor, oddBelow_xor, oddBelow_twoPow hi, oddBelow_twoPow hj, oddBelow_twoPow hk]
  rfl

theorem or_twoPow_of_set {i : Nat} (h : w.getLsbD i = true) : w ||| twoPow 24 i = w := by
  apply BitVec.eq_of_getLsbD_eq
  intro j hj
  obtain rfl | hne := eq_or_ne i j
  · simp [h]
  · simp [BitVec.getLsbD_twoPow, hne]

theorem or_twoPow_of_clear {i : Nat} (h : w.getLsbD i = false) : w ||| twoPow 24 i = w ^^^ twoPow 24 i := by
  apply BitVec.eq_of_getLsbD_eq
  intro j hj
  obtain rfl | hne := eq_or_ne i j
  · simp [h]
  · simp [BitVec.getLsbD_twoPow, hne]

/-- Bits set by OR, equal ones collapsing: one bit, two different bits or an XOR of three. -/
theorem div24_ne_zero_of_or {i j k : Nat} (hi : i < 24) (hj : j < 24) (hk : k < 24) :
    div24 (twoPow 24 i ||| twoPow 24 j ||| twoPow 24 k) ≠ 0#24 := by
  have htwo {j : Nat} (hj : j < 24) (hne : i ≠ j) : twoPow 24 i ||| twoPow 24 j = twoPow 24 i ^^^ twoPow 24 j :=
    or_twoPow_of_clear (by simp [BitVec.getLsbD_twoPow, hne])
  obtain rfl | hij := eq_or_ne i j
  · rw [BitVec.or_self]
    obtain rfl | hik := eq_or_ne i k
    · rw [BitVec.or_self]
      exact div24_ne_zero_of_one hi
    · rw [htwo hk hik]
      exact div24_ne_zero_of_two hi hk hik
  · rw [htwo hj hij]
    cases hset : (twoPow 24 i ^^^ twoPow 24 j).getLsbD k with
    | true =>
      rw [or_twoPow_of_set hset]
      exact div24_ne_zero_of_two hi hj hij
    | false =>
      rw [or_twoPow_of_clear hset]
      exact div24_ne_zero_of_three hi hj hk

/-- Settles O14: one or three bits change the parity, two bits have different remainders, and `0x000131` is the last
divisor (R66). -/
theorem changesOfUpToThreeBitsAreDetected : Obligations.ChangesOfUpToThreeBitsAreDetected := by
  refine ⟨fun v c i j k hi hj hk hv => ?_, fun v c hv => ?_⟩
  · rw [verdict_false_iff, div24_change ((valid_iff_div24 v c).mp hv)]
    simp only [← BitVec.twoPow_eq]
    exact div24_ne_zero_of_or hi hj hk
  · rw [verdict_iff, div24_change ((valid_iff_div24 v c).mp hv)]
    decide +kernel

/-! ### The checksum commands (R65, R67, R68) -/

theorem value16Of_operandA (w : CmdWord) : value16Of (operandA w) = w.extractLsb' 8 16 :=
  BitVec.extractLsb'_extractLsb'_of_le (by decide)

theorem checksum8Of_operandA (w : CmdWord) : checksum8Of (operandA w) = w.extractLsb' 0 8 :=
  BitVec.extractLsb'_extractLsb'_of_le (by decide)

/-- Settles O15: CRCGEN writes `CRC8(v)`, which is by definition the low byte of the remainder of `{v, 0}` (R67). -/
theorem crcgenWritesTheCheckValue : Obligations.CrcgenWritesTheCheckValue := by
  refine ⟨fun v s => rfl, fun w hop => ?_, by decide +kernel, by decide +kernel⟩
  rw [decode_of_opcode (i := .crcgen 0) hop, Instr.readFrom, value16Of_operandA]

/-- What CRCCHK writes of the checksum unit, by the check value (R68). -/
theorem Results.verify_pairWord (v : Half) (c : Byte) (r : Results) :
    r.verify (pairWord v c) =
      { r with rCrc := crc8 v, rRem := crc8 v ^^^ c, rOk := if div24 (v ++ c) = 0#24 then 1#1 else 0#1 } := by
  have hverdict : BitVec.ofBool (verdict (v ++ c)) = if div24 (v ++ c) = 0#24 then 1#1 else 0#1 := by
    by_cases h : div24 (v ++ c) = 0#24
    · rw [if_pos h, (verdict_iff _).mpr h]
      rfl
    · rw [if_neg h, (verdict_false_iff _).mpr h]
      rfl
  rw [pairWord, Results.verify, hverdict, value16Of_append, div24_append_low]

/-- Settles O16: CRCCHK writes what it verifies, and the remainder of its pair is `CRC8(v) ^ c` (R68). -/
theorem crcchkWritesTheVerdict : Obligations.CrcchkWritesTheVerdict := by
  refine ⟨fun v c s => ?_, div24_append_eq_setWidth, fun w hop => ?_, by decide +kernel, by decide +kernel,
    by decide +kernel, by decide +kernel⟩
  · rw [exec, execCrcchk, Results.verify_pairWord]
    rfl
  · rw [decode_of_opcode (i := .crcchk 0 0) hop, Instr.readFrom, value16Of_operandA, checksum8Of_operandA]

/-- Settles O13: the check value is the checksum of a valid pair, and CRCCHK reads no state (R65). -/
theorem computedCheckValueVerifies : Obligations.ComputedCheckValueVerifies := by
  refine ⟨fun v s => ⟨_, _, rfl, rfl, ?_⟩, fun v c s s' t t' h h' => ?_⟩
  · exact congrArg BitVec.ofBool ((valid_iff_crc8 v (crc8 v)).mpr rfl)
  · cases h
    cases h'
    rfl

end Sys2Proof.Machine
end

section
/-! PROOFS. The statements of 41_bitfield.md: the resolution merge, the data and status bits of a reading, and the two
bit-field commands. -/

namespace Sys2Proof.Machine

open BitVec (twoPow)

/-! ### The resolution merge (R70, R71) -/

/-- Through the resolution bits the merge is `bits`: the masks `0x7E` and `0x81` are disjoint. -/
theorem merge_and_maskRes (old bits : Byte) : merge old bits &&& Config.maskRes = bits &&& Config.maskRes := by
  have hdisjoint : Config.maskKeep &&& Config.maskRes = 0#8 := by decide
  rw [merge, BitVec.and_or_distrib_right, BitVec.and_assoc, hdisjoint, BitVec.and_zero, BitVec.zero_or,
    BitVec.and_assoc, BitVec.and_self]

/-- Through the other bits the merge is `old`. -/
theorem merge_and_maskKeep (old bits : Byte) : merge old bits &&& Config.maskKeep = old &&& Config.maskKeep := by
  have hdisjoint : Config.maskRes &&& Config.maskKeep = 0#8 := by decide
  rw [merge, BitVec.and_or_distrib_right, BitVec.and_assoc, BitVec.and_self, BitVec.and_assoc, hdisjoint,
    BitVec.and_zero, BitVec.or_zero]

theorem merge_merge (old bits : Byte) : merge (merge old bits) bits = merge old bits := by
  rw [merge, merge_and_maskKeep, ← merge]

/-- The resolution bits of a byte are its bits 7 and 0. -/
theorem and_maskRes (b : Byte) :
    b &&& Config.maskRes = (if b.getLsbD 7 then twoPow 8 7 else 0#8) ||| (if b.getLsbD 0 then twoPow 8 0 else 0#8) := by
  have hmask : Config.maskRes = twoPow 8 7 ||| twoPow 8 0 := by decide
  rw [hmask, BitVec.and_or_distrib_left, BitVec.and_twoPow, BitVec.and_twoPow]

/-- The four values of bits 7 and 0 are the four profiles (R6). -/
theorem exists_registerBits_eq (b : Byte) : ∃ p : Config.Profile, b &&& Config.maskRes = p.registerBits := by
  rw [and_maskRes]
  cases b.getLsbD 7 with
  | false =>
    cases b.getLsbD 0 with
    | false => exact ⟨.rh12t14, rfl⟩
    | true => exact ⟨.rh8t12, rfl⟩
  | true =>
    cases b.getLsbD 0 with
    | false => exact ⟨.rh10t13, rfl⟩
    | true => exact ⟨.rh11t11, rfl⟩

/-- Settles O29: the merge seen through each mask, its idempotence, and the profile that its bits 7 and 0 name (R71). -/
theorem mergeTakesResolutionBitsOnly : Obligations.MergeTakesResolutionBitsOnly :=
  fun old bits => ⟨merge_and_maskRes old bits, merge_and_maskKeep old bits, merge_merge old bits,
    exists_registerBits_eq (merge old bits)⟩

/-! ### The data and status bits of a reading (R72) -/

/-- The status bits, zero-extended, are the reading under `MASK_STAT`. -/
theorem status_setWidth (r : Half) : (status r).setWidth 16 = r &&& ~~~Config.maskData := by
  have hmask (i : Nat) (hi : i < 16) : (~~~Config.maskData).getLsbD i = decide (i < 2) := by decide +revert
  apply BitVec.eq_of_getLsbD_eq
  intro i hi
  rw [BitVec.getLsbD_and, hmask i hi, BitVec.getLsbD_setWidth, status, BitVec.getLsbD_extractLsb', Nat.zero_add]
  simp [hi, Bool.and_comm]

/-- Settles O30: the two masks are complements (R72). -/
theorem readingIsDataBitsAndStatusBits : Obligations.ReadingIsDataBitsAndStatusBits := by
  refine fun r => ⟨rfl, rfl, ?_⟩
  rw [status_setWidth, maskRaw, ← BitVec.and_or_distrib_left, BitVec.or_not_self, BitVec.and_allOnes]

/-- What masking changes of a reading is its status bits. -/
theorem xor_maskRaw (r : Half) : r ^^^ maskRaw r = (status r).setWidth 16 := by
  rw [status_setWidth, maskRaw]
  ext i hi
  cases hm : Config.maskData[i] <;> simp [hm]

/-! ### Verification precedes masking (R73) -/

/-- The check value is linear, as the division is (R61). -/
theorem crc8_xor (v v' : Half) : crc8 (v ^^^ v') = crc8 v ^^^ crc8 v' := by
  have hpair : pairWord (v ^^^ v') 0x00#8 = pairWord v 0x00#8 ^^^ pairWord v' 0x00#8 :=
    (pair_xor v v' 0x00#8 0x00#8).symm
  rw [crc8, hpair, div24_xor, BitVec.extractLsb'_xor]
  rfl

/-- The three non-zero patterns of the status bits have a check value of their own. -/
theorem crc8_status_ne_zero {b : Crumb} (h : b ≠ 0#2) : crc8 (b.setWidth 16) ≠ 0x00#8 := by
  have hall : ∀ b : Crumb, b ≠ 0#2 → crc8 (b.setWidth 16) ≠ 0x00#8 := by decide +kernel
  exact hall b h

/-- Masking a reading with non-zero status bits changes its check value. -/
theorem crc8_ne_crc8_maskRaw {r : Half} (h : status r ≠ 0#2) : crc8 r ≠ crc8 (maskRaw r) := by
  rw [ne_eq, ← BitVec.xor_eq_zero_iff, ← crc8_xor, xor_maskRaw]
  exact crc8_status_ne_zero h

/-- A checksum for the masked reading fails the reading with non-zero status bits. -/
theorem valid_eq_false_of_valid_maskRaw {r : Half} {c : Byte} (hstatus : status r ≠ 0#2)
    (hmasked : valid (maskRaw r) c = true) : valid r c = false := by
  rw [valid_iff_crc8] at hmasked
  rw [Bool.eq_false_iff, ne_eq, valid_iff_crc8, ← hmasked]
  exact crc8_ne_crc8_maskRaw hstatus

/-- What a measurement that fails verification leaves in `R_ERR` and `R_OK` (R84, R85). -/
theorem Results.measure_failed_flags {a : Reading} (h : verdict a = false) (q : Quantity) (r : Results) :
    (r.measure q a).rErr = 1#2 ∧ (r.measure q a).rOk = 0#1 := by
  simp [Results.measure_of_failed h, h]

/-- Settles O27: both commands verify the unmasked word, which the checksum of the masked reading fails (R73, R84). -/
theorem verificationPrecedesMasking : Obligations.VerificationPrecedesMasking := by
  intro b0 b1 b2 s i hi hstatus hmasked
  have hfail : verdict (wireReading b0 b1 b2) = false := valid_eq_false_of_valid_maskRaw hstatus hmasked
  obtain rfl | rfl := hi
  · exact ⟨_, rfl, Results.measure_failed_flags hfail ..⟩ -- MEAST
  · exact ⟨_, rfl, Results.measure_failed_flags hfail ..⟩ -- MEASRH

/-! ### The bit-field commands (R74, R75) -/

/-- A slice of a slice. -/
theorem slice_slice {n : Nat} (x : BitVec n) (k len : Nat) {k' len' : Nat} (h : k' + len' ≤ len) :
    (x.extractLsb' k len).extractLsb' k' len' = x.extractLsb' (k + k') len' := by
  ext i hi
  simp [show k' + i < len by omega, Nat.add_assoc]

theorem oldOf_operandB (w : CmdWord) : oldOf (operandB w) = w.extractLsb' 24 8 :=
  slice_slice w 24 16 (by decide)

theorem registerBitsOf_operandB (w : CmdWord) : registerBitsOf (operandB w) = w.extractLsb' 32 8 :=
  slice_slice w 24 16 (by decide)

/-- Settles O17: REGMERGE writes `MERGE(old, bits)`, with `old` and `bits` the bytes of `B` (R52, R70, R74). -/
theorem regmergeWritesTheMergedByte : Obligations.RegmergeWritesTheMergedByte := by
  refine ⟨fun old bits s => rfl, fun w hop => ?_, by decide, by decide, by decide, by decide⟩
  rw [decode_of_opcode (i := .regmerge 0 0) hop, Instr.readFrom, oldOf_operandB, registerBitsOf_operandB]

/-- Settles O18: EXTRACT writes `MASKRAW(r)` and `STATUS(r)`, with `r` in `A[23:8]` (R51, R72, R75). -/
theorem extractWritesDataAndStatusBits : Obligations.ExtractWritesDataAndStatusBits := by
  refine ⟨fun r s => rfl, fun w hop => ?_, by decide, by decide, by decide, by decide, by decide, by decide,
    by decide⟩
  rw [decode_of_opcode (i := .extract 0) hop, Instr.readFrom, value16Of_operandA]

end Sys2Proof.Machine
end

section
/-! PROOFS. The statements of 42_convert.md: the two formulas, their ranges, the centi rounding, and the two conversion
commands. -/

namespace Sys2Proof.Machine

/-! ### The formulas (R76, R77) -/

/-- The temperature by its gain and its offset (R76). -/
theorem tnum_eq (m : Half) : tnum m = 17572 * (m.toNat : Int) - 307036160 := by
  simp only [tnum, Config.tGain, Config.tOff]
  ring

/-- The relative humidity by its gain and its offset (R77). -/
theorem hnum_eq (m : Half) : hnum m = 12500 * (m.toNat : Int) - 39321600 := by
  simp only [hnum, Config.hGain, Config.hOff]
  ring

/-- Settles O32: `6553600` is the scale of the centi coefficients and the 16 fraction bits together (R76). -/
theorem temperatureIsTheFormulaExactly : Obligations.TemperatureIsTheFormulaExactly := by
  refine fun m => ⟨tnum_eq m, ?_⟩
  rw [tnum_eq]
  push_cast
  ring

/-- Settles O33, as O32 with the humidity's coefficients (R77). -/
theorem humidityIsTheFormulaExactly : Obligations.HumidityIsTheFormulaExactly := by
  refine fun m => ⟨hnum_eq m, ?_⟩
  rw [hnum_eq]
  push_cast
  ring

/-! ### The ranges (R78) -/

/-- A masked reading is at most the mask. -/
theorem toNat_maskRaw_le (r : Half) : (maskRaw r).toNat ≤ (0xFFFC#16 : Half).toNat :=
  (BitVec.toNat_and r Config.maskData).trans_le Nat.and_le_right

/-- Both gains are positive, so a range of readings becomes the range between its ends' conversions. -/
theorem Quantity.num_le_num (q : Quantity) {m m' : Half} (h : m.toNat ≤ m'.toNat) : q.num m ≤ q.num m' := by
  cases q with
  | temperature =>
    simp only [Quantity.num, tnum_eq]
    omega
  | humidity =>
    simp only [Quantity.num, hnum_eq]
    omega

theorem Quantity.num_zero_le (q : Quantity) (m : Half) : q.num 0x0000#16 ≤ q.num m :=
  q.num_le_num (Nat.zero_le _)

theorem Quantity.num_le_num_allOnes (q : Quantity) (m : Half) : q.num m ≤ q.num 0xFFFF#16 :=
  q.num_le_num (Nat.le_of_lt_succ m.isLt)

theorem Quantity.num_maskRaw_le (q : Quantity) (r : Half) : q.num (maskRaw r) ≤ q.num 0xFFFC#16 :=
  q.num_le_num (toNat_maskRaw_le r)

/-- The pattern of an integer in the signed 32-bit range reads back as the integer (R15). -/
theorem toInt_int32 {n : Int} (hlo : -2147483648 ≤ n) (hhi : n ≤ 2147483647) : (int32 n).toInt = n := by
  rw [int32]
  exact BitVec.toInt_ofInt_eq_self (by decide) hlo (Int.lt_add_one_of_le hhi)

/-- The conversions of all readings lie between those of the least and the greatest, which 32 bits hold. -/
theorem Quantity.toInt_int32_num (q : Quantity) (m : Half) : (int32 (q.num m)).toInt = q.num m := by
  have hlo : -2147483648 ≤ q.num 0x0000#16 := by cases q <;> decide
  have hhi : q.num 0xFFFF#16 ≤ 2147483647 := by cases q <;> decide
  exact toInt_int32 (hlo.trans (q.num_zero_le m)) ((q.num_le_num_allOnes m).trans hhi)

/-- Settles O34: the ranges are those between the conversions of the end readings, and the steps are multiples of the
gains (R78). -/
theorem conversionsNeverOverflow : Obligations.ConversionsNeverOverflow := by
  refine ⟨fun m => ⟨Quantity.temperature.num_zero_le m, Quantity.temperature.num_le_num_allOnes m,
      Quantity.humidity.num_zero_le m, Quantity.humidity.num_le_num_allOnes m,
      Quantity.temperature.toInt_int32_num m, Quantity.humidity.toInt_int32_num m⟩,
    fun r => ⟨Quantity.temperature.num_maskRaw_le r, Quantity.humidity.num_maskRaw_le r⟩,
    fun m m' h => ?_, fun m m' h => ?_⟩
  · simp only [tnum_eq, hnum_eq, h] -- one count
    omega
  · simp only [tnum_eq, hnum_eq, h] -- four counts, one step of a masked reading
    omega

/-! ### The centi rounding (R79, R80) -/

theorem centi_eq_floor (n : Int) : centi n = ⌊(n : ℚ) / 65536⌋ :=
  (Rat.floor_intCast_div_natCast n 65536).symm

/-- The arithmetic shift of a 32-bit pattern is the division of the integer it holds (R79). -/
theorem int32_centi {n : Int} (hlo : -2147483648 ≤ n) (hhi : n ≤ 2147483647) :
    int32 (centi n) = (int32 n).sshiftRight 16 := by
  obtain ⟨hclo, hchi⟩ : -2147483648 ≤ centi n ∧ centi n ≤ 2147483647 := by
    rw [centi]
    omega
  apply BitVec.eq_of_toInt_eq
  rw [BitVec.toInt_sshiftRight, toInt_int32 hlo hhi, toInt_int32 hclo hchi, Int.shiftRight_eq_div_pow]
  rfl

/-- Settles O35: what the floor leaves is the fractional part, which lies in `[0, 1)` (R79). -/
theorem centiRoundsTowardMinusInfinity : Obligations.CentiRoundsTowardMinusInfinity := by
  refine fun n hlo hhi => ⟨centi_eq_floor n, int32_centi hlo hhi, ?_⟩
  rw [centi_eq_floor, Int.self_sub_floor]
  exact ⟨Int.fract_nonneg _, Int.fract_lt_one _⟩

theorem centi_le_centi {n n' : Int} (h : n ≤ n') : centi n ≤ centi n' :=
  Int.ediv_le_ediv (by decide) h

/-- The centi results of masked readings lie between those of the readings `0x0000` and `0xFFFC`. -/
theorem Quantity.centi_num_maskRaw_bounds (q : Quantity) (r : Half) :
    centi (q.num 0x0000#16) ≤ centi (q.num (maskRaw r)) ∧ centi (q.num (maskRaw r)) ≤ centi (q.num 0xFFFC#16) :=
  ⟨centi_le_centi (q.num_zero_le _), centi_le_centi (q.num_maskRaw_le r)⟩

/-- Settles O36: the ends of the range are themselves masked readings (R80). -/
theorem centiRangesAreNotClamped : Obligations.CentiRangesAreNotClamped := by
  refine ⟨fun r => ?_, by decide, by decide, by decide, by decide⟩
  obtain ⟨htlo, hthi⟩ := Quantity.temperature.centi_num_maskRaw_bounds r
  obtain ⟨hhlo, hhhi⟩ := Quantity.humidity.centi_num_maskRaw_bounds r
  exact ⟨htlo, hthi, hhlo, hhhi⟩

/-! ### The conversion commands (R82, R83) -/

/-- A conversion reads the status bits into `R_STAT` only: all else is of the masked reading (R72, R82, R83). -/
theorem Results.convert_of_maskRaw_eq {r r' : Half} (h : maskRaw r = maskRaw r') (q : Quantity) (res : Results) :
    res.convert q r' = { res.convert q r with rStat := status r' } := by
  simp only [Results.convert, h]

/-- Settles O31: both commands complete with the conversion of their reading. -/
theorem statusBitsNeverInfluenceAConversion : Obligations.StatusBitsNeverInfluenceAConversion := by
  intro r r' s hmask
  have hconvert (op : Byte) (q : Quantity) := Results.convert_of_maskRaw_eq hmask q (Results.ofOpcode op)
  exact ⟨⟨_, _, rfl, rfl, congrArg s.complete (hconvert 0x05#8 .temperature)⟩,
    ⟨_, _, rfl, rfl, congrArg s.complete (hconvert 0x06#8 .humidity)⟩⟩

/-- Settles O19: CONVT writes the conversion of the masked reading, with `r` in `A[23:8]` (R51, R82). -/
theorem convtWritesTheTemperature : Obligations.ConvtWritesTheTemperature := by
  refine ⟨?_, fun w hop => ?_, by decide, by decide, by decide, by decide, by decide, by decide, by decide⟩
  · rintro r _ s rfl
    rw [← tnum_eq]
    rfl
  · rw [decode_of_opcode (i := .convt 0) hop, Instr.readFrom, value16Of_operandA]

/-- Settles O20: CONVRH writes the conversion of the masked reading, with `r` in `A[23:8]` (R51, R83). -/
theorem convrhWritesTheHumidity : Obligations.ConvrhWritesTheHumidity := by
  refine ⟨?_, fun w hop => ?_, by decide, by decide, by decide, by decide, by decide, by decide, by decide, by decide,
    by decide, by decide⟩
  · rintro r _ s rfl
    rw [← hnum_eq]
    rfl
  · rw [decode_of_opcode (i := .convrh 0) hop, Instr.readFrom, value16Of_operandA]

end Sys2Proof.Machine
end

section
/-! PROOFS. The statements of 43_measure.md: the sentinels and the two measurement commands. -/

namespace Sys2Proof.Machine

/-! ### The measurement of a pair, by its check value (R84) -/

section

variable {v : Half} {c : Byte}

/-- A pair with remainder 0 is masked and converted, and leaves no error and no remainder. -/
theorem Results.measure_pairWord_of_verified (h : div24 (v ++ c) = 0#24) (q : Quantity) (op : Byte) :
    (Results.ofOpcode op).measure q (pairWord v c) =
      { rLastOp := op, rErr := 0#2, rOk := 1#1, rCrc := crc8 v, rRem := 0#8, rRaw := maskRaw v, rStat := status v
        rRes := int32 (q.num (maskRaw v)), rCenti := int32 (centi (q.num (maskRaw v))), rReg := 0#8 } := by
  have hrem : crc8 v ^^^ c = 0#8 := BitVec.xor_eq_zero_iff.mpr ((div24_append_eq_zero_iff v c).mp h)
  rw [Results.measure_of_verified ((verdict_iff (pairWord v c)).mpr h), Results.verify_pairWord, if_pos h, hrem,
    value16Of_pairWord]
  rfl

/-- A pair with a remainder leaves the sentinels, CHECKSUM_FAILED and its remainder (R85). -/
theorem Results.measure_pairWord_of_failed (h : div24 (v ++ c) ≠ 0#24) (q : Quantity) (op : Byte) :
    (Results.ofOpcode op).measure q (pairWord v c) =
      { rLastOp := op, rErr := 1#2, rOk := 0#1, rCrc := crc8 v, rRem := crc8 v ^^^ c, rRaw := 0#16, rStat := 0#2
        rRes := 0x7FFFFFFF#32, rCenti := 99900#32, rReg := 0#8 } := by
  rw [Results.measure_of_failed ((verdict_false_iff (pairWord v c)).mpr h), Results.verify_pairWord, if_neg h]
  rfl

end

/-! ### The sentinels (R85) -/

/-- Every exact result is below `SENT_RES`. -/
theorem Quantity.int32_num_maskRaw_ne_sentRes (q : Quantity) (r : Half) :
    int32 (q.num (maskRaw r)) ≠ Config.sentRes := by
  have hmax : q.num 0xFFFC#16 < Config.sentRes.toInt := by cases q <;> decide
  apply ne_of_apply_ne BitVec.toInt
  rw [q.toInt_int32_num]
  exact ((q.num_maskRaw_le r).trans_lt hmax).ne

/-- Every centi result is below `SENT_CENTI`. -/
theorem Quantity.int32_centi_num_maskRaw_ne_sentCenti (q : Quantity) (r : Half) :
    int32 (centi (q.num (maskRaw r))) ≠ int32 Config.sentCenti := by
  have hmin : -2147483648 ≤ centi (q.num 0x0000#16) := by cases q <;> decide
  have hmax : centi (q.num 0xFFFC#16) < Config.sentCenti := by cases q <;> decide
  have hsent : Config.sentCenti ≤ 2147483647 := by decide
  obtain ⟨hlo, hhi⟩ := q.centi_num_maskRaw_bounds r
  have hlt : centi (q.num (maskRaw r)) < Config.sentCenti := hhi.trans_lt hmax
  apply ne_of_apply_ne BitVec.toInt
  rw [toInt_int32 (hmin.trans hlo) (hlt.le.trans hsent), toInt_int32 (by decide) hsent]
  exact hlt.ne

/-- Both measurement commands complete with the measurement of their three bytes. -/
theorem exec_measurement {i : Instr} {b0 b1 b2 : Byte} (h : i = .meast b0 b1 b2 ∨ i = .measrh b0 b1 b2) :
    ∃ op q, ∀ s, exec i s = .next (s.complete ((Results.ofOpcode op).measure q (pairWord (b0 ++ b1) b2))) := by
  obtain rfl | rfl := h
  · exact ⟨0x07#8, .temperature, fun _ => rfl⟩
  · exact ⟨0x08#8, .humidity, fun _ => rfl⟩

/-- Settles O26: the two outcomes of a measurement, with the conversions of a verified one below the sentinels (R85). -/
theorem sentinelsAreNeverAReading : Obligations.SentinelsAreNeverAReading := by
  intro b0 b1 b2 s i hi
  obtain ⟨op, q, hexec⟩ := exec_measurement hi
  refine ⟨_, hexec s, fun hcrc => ?_, fun hcrc => ?_⟩
  · rw [State.complete_results,
      Results.measure_pairWord_of_failed (mt (div24_append_eq_zero_iff (b0 ++ b1) b2).mp hcrc)]
    exact ⟨rfl, rfl, rfl, rfl, rfl, rfl, rfl, rfl⟩
  · rw [State.complete_results,
      Results.measure_pairWord_of_verified ((div24_append_eq_zero_iff (b0 ++ b1) b2).mpr hcrc)]
    exact ⟨rfl, rfl, q.int32_centi_num_maskRaw_ne_sentCenti _, q.int32_num_maskRaw_ne_sentRes _⟩

/-! ### The measurement commands (R87, R88) -/

theorem byte0Of_operandA (w : CmdWord) : byte0Of (operandA w) = w.extractLsb' 16 8 :=
  slice_slice w 0 24 (by decide)

theorem byte1Of_operandA (w : CmdWord) : byte1Of (operandA w) = w.extractLsb' 8 8 :=
  slice_slice w 0 24 (by decide)

theorem byte2Of_operandA (w : CmdWord) : byte2Of (operandA w) = w.extractLsb' 0 8 :=
  slice_slice w 0 24 (by decide)

/-- A valid word with one bit changed has a remainder (R87). -/
theorem div24_ne_zero_of_bit_changed {a : Reading} {k : Nat} (h : div24 a = 0#24) (hk : k < 24) :
    div24 (a ^^^ (1#24 <<< k)) ≠ 0#24 := by
  rw [div24_change h, ← BitVec.twoPow_eq]
  exact div24_ne_zero_of_one hk

/-- Settles O21: both outcomes for the temperature, the bytes of `A`, and a changed bit's own remainder (R66, R87). -/
theorem meastVerifiesThenConverts : Obligations.MeastVerifiesThenConverts := by
  refine ⟨?_, fun b0 b1 b2 s h => ?_, fun w hop => ?_, fun b0 b1 b2 c0 c1 c2 k s hk h hc => ?_, div24_zero,
    by decide +kernel⟩
  · rintro b0 b1 b2 _ s h rfl -- verified
    rw [exec, execMeast, wireReading_eq_pairWord, Results.measure_pairWord_of_verified h, ← tnum_eq]
    rfl
  · rw [exec, execMeast, wireReading_eq_pairWord, Results.measure_pairWord_of_failed h] -- failed
    rfl
  · rw [decode_of_opcode (i := .meast 0 0 0) hop, Instr.readFrom, byte0Of_operandA, byte1Of_operandA,
      byte2Of_operandA]
  · have hfail : div24 (c0 ++ c1 ++ c2) ≠ 0#24 := hc ▸ div24_ne_zero_of_bit_changed h hk -- one bit changed
    exact ⟨_, rfl, (Results.measure_failed_flags ((verdict_false_iff _).mpr hfail) ..).left⟩

/-- Settles O22: both outcomes for the humidity, and the bytes of `A` (R88). -/
theorem measrhVerifiesThenConverts : Obligations.MeasrhVerifiesThenConverts := by
  refine ⟨?_, fun b0 b1 b2 s h => ?_, fun w hop => ?_, div24_zero, by decide +kernel, by decide +kernel,
    by decide +kernel⟩
  · rintro b0 b1 b2 _ s h rfl -- verified
    rw [exec, execMeasrh, wireReading_eq_pairWord, Results.measure_pairWord_of_verified h, ← hnum_eq]
    rfl
  · rw [exec, execMeasrh, wireReading_eq_pairWord, Results.measure_pairWord_of_failed h] -- failed
    rfl
  · rw [decode_of_opcode (i := .measrh 0 0 0) hop, Instr.readFrom, byte0Of_operandA, byte1Of_operandA,
      byte2Of_operandA]

end Sys2Proof.Machine
end

section
/-! PROOFS. The statements of 60_exceptions.md: the reserved opcodes, and the cause of each error code. -/

namespace Sys2Proof.Machine

variable {s t : State} {w : CmdWord}

/-! ### A reserved opcode (R90) -/

/-- A word with a reserved opcode completes with ILLEGAL_OP and its opcode alone (R90). -/
theorem completeWord_of_reservedOpcode (h : reservedOpcode (opOf w)) (s : State) :
    completeWord w s = .next (s.complete ((Results.ofOpcode (opOf w)).raise .illegalOp)) :=
  completeWord_of_reserved (decode_of_reservedOpcode h) s

/-- With `LAT >= 2` the accepting edge holds any word, whatever its opcode (R104). -/
theorem step_accepting_hold (h : s.Accepting w) (hlat : s.params.lat ≠ 1) : step s = .next (s.edge.hold w) := by
  rw [step_accepting h, acceptWord, State.edge_params, if_neg hlat]

/-- Settles O23: accepting an offer does not look at the opcode; the completing edge completes the word from an idle
block (R90, R104). -/
theorem reservedOpcodesCompleteWithIllegalOp : Obligations.ReservedOpcodesCompleteWithIllegalOp := by
  refine ⟨fun w s hop => completeWord_of_reservedOpcode hop s, fun w s _ hacc hlat => ?_, fun w s hop hcomp => ?_⟩
  · exact ⟨_, step_accepting_hold hacc hlat, rfl, rfl, rfl⟩
  · obtain ⟨e, hstep, hidle⟩ := step_completing hcomp
    exact ⟨_, hstep.trans (completeWord_of_reservedOpcode hop e), rfl, hidle, rfl, rfl⟩

/-! ### A completed word's opcode and error code (R24, R89) -/

/-- Any word leaves its own opcode in `R_LASTOP`, a reserved one included (R24, R90). -/
theorem rLastOp_of_completeWord (h : completeWord w s = .next t) : t.results.rLastOp = opOf w := by
  by_cases hres : reservedOpcode (opOf w)
  · rw [completeWord_of_reservedOpcode hres] at h
    cases h
    rfl
  · obtain ⟨i, hi, hop⟩ := decode_of_not_reservedOpcode hres
    rw [completeWord_of_command hi] at h
    exact (rLastOp_of_exec h).trans hop

/-- A command other than a measurement raises no error (R89). -/
theorem rErr_of_exec_not_measurement {i : Instr} (hi : ¬ (i.opcode = 0x07#8 ∨ i.opcode = 0x08#8))
    (h : exec i s = .next t) : t.results.rErr = 0#2 := by
  cases i
  case meast => exact absurd (.inl rfl) hi
  case measrh => exact absurd (.inr rfl) hi
  all_goals cases h; rfl

theorem not_reservedOpcode_of_measurement {op : Byte} (h : op = 0x07#8 ∨ op = 0x08#8) : ¬ reservedOpcode op := by
  obtain rfl | rfl := h <;> simp [reservedOpcode]

/-- The three wire bytes of operand A are operand A (R37). -/
theorem wireReading_bytes (a : Reading) : wireReading (byte0Of a) (byte1Of a) (byte2Of a) = a := by
  have hvalue : byte0Of a ++ byte1Of a = value16Of a := BitVec.extractLsb'_append_extractLsb'_eq_extractLsb' rfl
  rw [wireReading, hvalue]
  exact value_append_checksum a

/-- A measurement word completes with the measurement of operand A (R84, R87, R88). -/
theorem completeWord_measurement (h : opOf w = 0x07#8 ∨ opOf w = 0x08#8) :
    ∃ q, ∀ s, completeWord w s = .next (s.complete ((Results.ofOpcode (opOf w)).measure q (operandA w))) := by
  obtain hop | hop := h
  · refine ⟨.temperature, fun s => ?_⟩ -- MEAST
    rw [completeWord_of_command (decode_of_opcode (i := .meast 0 0 0) hop), Instr.readFrom, exec, execMeast,
      wireReading_bytes, hop]
  · refine ⟨.humidity, fun s => ?_⟩ -- MEASRH
    rw [completeWord_of_command (decode_of_opcode (i := .measrh 0 0 0) hop), Instr.readFrom, exec, execMeasrh,
      wireReading_bytes, hop]

/-- A measurement of a word with a remainder, by the word's own value and checksum (R85, R89). -/
theorem Results.measure_of_remainder {a : Reading} (h : div24 a ≠ 0#24) (q : Quantity) (op : Byte) :
    (Results.ofOpcode op).measure q a =
      { rLastOp := op, rErr := 1#2, rOk := 0#1, rCrc := crc8 (value16Of a)
        rRem := crc8 (value16Of a) ^^^ checksum8Of a, rRaw := 0#16, rStat := 0#2, rRes := 0x7FFFFFFF#32
        rCenti := 99900#32, rReg := 0#8 } := by
  have ha : value16Of a ++ checksum8Of a = a := value_append_checksum a
  have hfail := Results.measure_pairWord_of_failed (ha.symm ▸ h) q op
  rwa [pairWord, ha] at hfail

/-- Settles O25, by the kind of the word: only a reserved opcode raises ILLEGAL_OP, only a measurement with a remainder
raises CHECKSUM_FAILED, and nothing else raises (R89). -/
theorem errorCodesAriseFromTheirCauses : Obligations.ErrorCodesAriseFromTheirCauses := by
  intro w s t h
  refine ⟨rLastOp_of_completeWord h, ?_⟩
  by_cases hmeas : opOf w = 0x07#8 ∨ opOf w = 0x08#8
  · have hres := not_reservedOpcode_of_measurement hmeas
    obtain ⟨q, hq⟩ := completeWord_measurement hmeas
    rw [hq s] at h
    cases h
    by_cases hdiv : div24 (operandA w) = 0#24
    · simp [Results.measure_of_verified ((verdict_iff _).mpr hdiv), hres, hdiv] -- verified
    · simp [Results.measure_of_remainder hdiv, hmeas, hres, hdiv] -- failed
  · by_cases hres : reservedOpcode (opOf w)
    · rw [completeWord_of_reservedOpcode hres] at h
      cases h
      simp [ErrorCode.code, hres, hmeas] -- reserved
    · obtain ⟨i, hi, hop⟩ := decode_of_not_reservedOpcode hres
      rw [completeWord_of_command hi] at h
      have herr : t.results.rErr = 0#2 := rErr_of_exec_not_measurement (hop ▸ hmeas) h
      simp [herr, hres, hmeas] -- any other command

end Sys2Proof.Machine
end

section
/-! PROOFS. The statements of 70_reset_and_hazards.md: the branches of the clock edge, what an edge reads, and the
completing edges. -/

namespace Sys2Proof.Machine

variable {s t : State} {w : CmdWord}

/-! ### The remaining branches of the cycle rule (R104) -/

theorem step_idle_quiet (hr : s.pins.rst = .low) (hp : s.power = .operating) (hf : s.phase = .idle)
    (hv : s.pins.cmdValid = .low) : step s = .next s.edge := by
  simp [step_idle hr hp hf, idleEdge, hv]

/-- With `LAT == 1` the accepting edge is the completing edge. -/
theorem step_accepting_complete (h : s.Accepting w) (hlat : s.params.lat = 1) : step s = completeWord w s.edge := by
  rw [step_accepting h, acceptWord, State.edge_params, if_pos hlat]

theorem step_countDown (hr : s.pins.rst = .low) (hp : s.power = .operating) (hb : s.phase = .busy) (hc : s.cnt ≠ 1) :
    step s = .next s.edge.countDown := by
  simp [step_busy hr hp hb, busyEdge, hc]

/-- Settles O39, one branch lemma each; a reset edge leaves an operating block operating (R104). -/
theorem clockEdgeFollowsTheCycleRule : Obligations.ClockEdgeFollowsTheCycleRule := by
  intro s hp
  refine ⟨fun hr => ?_, fun hr hf hv => step_idle_quiet hr hp hf hv, fun w => step_accepting_complete,
    fun w => step_accepting_hold, fun hr hb hc => step_finishing ⟨hp, hb, hr, hc, rfl⟩,
    fun hr hb hc => step_countDown hr hp hb hc⟩
  rw [step_reset hr]
  simp [State.resetEdge, State.edge, hp]

/-- Settles O37: a completing edge completes the word, and the word is what it decodes to (R92, R104). -/
theorem stepRunsTheDecodedCommand : Obligations.StepRunsTheDecodedCommand := by
  refine ⟨fun s w i h hlat hd => ?_, fun s w i h hd => ?_, fun s w op h hlat hd => ?_, fun s w op h hd => ?_⟩
  · exact (step_accepting_complete h hlat).trans (completeWord_of_command hd _)
  · exact (step_finishing h).trans (completeWord_of_command hd _)
  · exact (step_accepting_complete h hlat).trans (completeWord_of_reserved hd _)
  · exact (step_finishing h).trans (completeWord_of_reserved hd _)

/-! ### The reset edge and the unreset block (R108 to R110) -/

/-- Settles O40: the reset edge does not look at the state, and `rst` alone keeps `cmd_ready` low (R22, R108). -/
theorem resetWinsAtEveryEdge : Obligations.ResetWinsAtEveryEdge := by
  intro s hr
  refine ⟨⟨_, step_reset hr, ?_⟩, fun hp => ?_⟩
  · simp [Results.zero]
  · simp [cmdReady_low_iff hp, hr]

/-- Settles O41: after a reset edge the block is idle and operating (R110). -/
theorem oneResetEdgeMakesTheBlockReady : Obligations.OneResetEdgeMakesTheBlockReady := by
  refine fun s hr => ⟨_, step_reset hr, fun hlow => ?_⟩
  rw [State.outputs, cmdReady_of_idle rfl rfl hlow]
  rfl

/-- Settles O50: an unreset edge frees the registers and keeps the power state (R109). -/
theorem unresetBlockWaitsForReset : Obligations.UnresetBlockWaitsForReset :=
  fun _ hp hr => ⟨_, step_unreset hr hp, hp, rfl, rfl⟩

/-! ### What an edge reads (R105, R114) -/

/-- The coming edge reads the port `p`, and the port is unknown (R105, R114). -/
def State.ReadsUnknown (s : State) (p : InputPin) : Prop :=
  match p with
  | .rst => s.pins.rst = .unknown
  | .cmdValid => s.pins.rst = .low ∧ s.power = .operating ∧ s.phase = .idle ∧ s.pins.cmdValid = .unknown
  | .cmd =>
    s.pins.rst = .low ∧ s.power = .operating ∧ s.phase = .idle ∧ s.pins.cmdValid = .high ∧ s.pins.cmd = .unknown

theorem step_of_readsUnknown {p : InputPin} (h : s.ReadsUnknown p) : step s = .refused (.unknownInput p) := by
  cases p with
  | rst =>
    have hr : s.pins.rst = .unknown := h
    simp [step, clockEdge, hr]
  | cmdValid =>
    obtain ⟨hr, hp, hf, hv⟩ := h
    simp [step_idle hr hp hf, idleEdge, hv]
  | cmd =>
    obtain ⟨hr, hp, hf, hv, hc⟩ := h
    simp [step_idle hr hp hf, idleEdge, hv, hc]

/-- An accepting edge has a next state at every `LAT`, as every word completes. -/
theorem exists_next_of_accepting (h : s.Accepting w) : ∃ t, step s = .next t := by
  by_cases hlat : s.params.lat = 1
  · obtain ⟨r, hr⟩ := completeWord_completes w s.edge
    exact ⟨_, (step_accepting_complete h hlat).trans hr⟩
  · exact ⟨_, step_accepting_hold h hlat⟩

/-- A BUSY edge has a next state whatever is offered. -/
theorem exists_next_of_busy (hr : s.pins.rst = .low) (hp : s.power = .operating) (hb : s.phase = .busy) :
    ∃ t, step s = .next t := by
  by_cases hc : s.cnt = 1
  · obtain ⟨r, hw⟩ := completeWord_completes s.pend s.edge.release
    exact ⟨_, (step_finishing ⟨hp, hb, hr, hc, rfl⟩).trans hw⟩
  · exact ⟨_, step_countDown hr hp hb hc⟩

/-- An edge that reads no unknown port has a next state. -/
theorem exists_next_of_not_readsUnknown (h : ∀ p, ¬ s.ReadsUnknown p) : ∃ t, step s = .next t := by
  cases hr : s.pins.rst with
  | unknown => exact absurd hr (h .rst)
  | high => exact ⟨_, step_reset hr⟩
  | low =>
    cases hp : s.power with
    | unreset => exact ⟨_, step_unreset hr hp⟩
    | operating =>
      cases hf : s.phase with
      | busy => exact exists_next_of_busy hr hp hf
      | idle =>
        cases hv : s.pins.cmdValid with
        | unknown => exact absurd ⟨hr, hp, hf, hv⟩ (h .cmdValid)
        | low => exact ⟨_, step_idle_quiet hr hp hf hv⟩
        | high =>
          cases hc : s.pins.cmd with
          | unknown => exact absurd ⟨hr, hp, hf, hv, hc⟩ (h .cmd)
          | word w => exact exists_next_of_accepting ⟨hp, hf, hr, hv, hc⟩

theorem step_next_or_readsUnknown (s : State) : (∃ t, step s = .next t) ∨ ∃ p, s.ReadsUnknown p := by
  by_cases h : ∃ p, s.ReadsUnknown p
  · exact .inr h
  · exact .inl (exists_next_of_not_readsUnknown (not_exists.mp h))

theorem step_refused_iff_readsUnknown (s : State) (p : InputPin) :
    step s = .refused (.unknownInput p) ↔ s.ReadsUnknown p := by
  refine ⟨fun h => ?_, step_of_readsUnknown⟩
  obtain ⟨t, ht⟩ | ⟨q, hq⟩ := step_next_or_readsUnknown s
  · simp [ht] at h
  · rw [step_of_readsUnknown hq] at h
    cases h
    exact hq

/-- Settles O49: the three ports in turn (R114). -/
theorem onlyUnknownInputsAreRefused : Obligations.OnlyUnknownInputsAreRefused := fun s =>
  ⟨step_refused_iff_readsUnknown s .rst, step_refused_iff_readsUnknown s .cmdValid,
    step_refused_iff_readsUnknown s .cmd,
    (step_next_or_readsUnknown s).imp_right fun ⟨p, hp⟩ => ⟨p, step_of_readsUnknown hp⟩⟩

/-- Two blocks that an edge's start leaves alike, with the same `rst`, step alike unless one of them reads its offer:
every branch but that one is a function of `s.edge` (R104, R105). -/
theorem step_eq_of_offer_unread {s' : State} (hedge : s.edge = s'.edge) (hrst : s.pins.rst = s'.pins.rst)
    (hunread : s.pins.rst ≠ .low ∨ s.power = .unreset ∨ s.phase = .busy ∨
      (s.pins.cmdValid = .low ∧ s'.pins.cmdValid = .low)) :
    step s = step s' := by
  have hpower : s.power = s'.power := by simpa using congrArg State.power hedge
  have hphase : s.phase = s'.phase := by simpa using congrArg State.phase hedge
  cases hr : s.pins.rst with
  | unknown =>
    have hr' : s'.pins.rst = .unknown := hrst ▸ hr
    rw [step_of_readsUnknown (p := .rst) hr, step_of_readsUnknown (p := .rst) hr']
  | high => rw [step_reset hr, step_reset (hrst ▸ hr), hedge]
  | low =>
    cases hp : s.power with
    | unreset => rw [step_unreset hr hp, step_unreset (hrst ▸ hr) (hpower ▸ hp), hedge]
    | operating =>
      cases hf : s.phase with
      | busy => rw [step_busy hr hp hf, step_busy (hrst ▸ hr) (hpower ▸ hp) (hphase ▸ hf), hedge]
      | idle =>
        obtain ⟨hv, hv'⟩ : s.pins.cmdValid = .low ∧ s'.pins.cmdValid = .low := by simpa [hr, hp, hf] using hunread
        rw [step_idle_quiet hr hp hf hv, step_idle_quiet (hrst ▸ hr) (hpower ▸ hp) (hphase ▸ hf) hv', hedge]

/-- Settles O42: the start of the edge spends the offer, so nothing of it is left in `s.edge` (R105). -/
theorem offersAreReadOnlyWhenReady : Obligations.OffersAreReadOnlyWhenReady :=
  fun _ _ _ _ hrst hunread => step_eq_of_offer_unread rfl hrst hunread

/-! ### Completing edges and the others (R106, R107, R112) -/

/-- An edge that completes no word clears `done`, and only a reset edge among them touches the results. -/
theorem step_of_not_completing (hp : s.power = .operating) (h : step s = .next t) (hnone : ¬ ∃ w, s.Completing w) :
    t.done = 0#1 ∧ (s.pins.rst ≠ .high → t.results = s.results) := by
  obtain ⟨hr, rfl⟩ | ⟨-, hunreset, -⟩ | ⟨-, -, -, -, rfl⟩ | ⟨w, -, -, rfl⟩ | ⟨w, hacc, hlat, -⟩ | ⟨-, -, -, -, rfl⟩ |
    ⟨w, hfin, -⟩ := step_cases h
  · exact ⟨rfl, fun hne => absurd hr hne⟩ -- reset
  · simp [hp] at hunreset -- unreset
  · exact ⟨rfl, fun _ => rfl⟩ -- idle, nothing offered
  · exact ⟨rfl, fun _ => rfl⟩ -- accepting, `LAT >= 2`
  · exact absurd ⟨w, .inl ⟨hacc, hlat⟩⟩ hnone -- accepting and completing, `LAT == 1`
  · exact ⟨rfl, fun _ => rfl⟩ -- busy, counting down
  · exact absurd ⟨w, .inr hfin⟩ hnone -- finishing

/-- A completing edge pulses `done` and leaves the block idle (R104). -/
theorem step_of_completing (hc : s.Completing w) (h : step s = .next t) : t.done = 1#1 ∧ t.phase = .idle := by
  obtain ⟨t', u, ht', -, -, hdone, hidle⟩ := completingEdgeWritesItsOwnWord s w hc
  rw [h] at ht'
  cases ht'
  exact ⟨hdone, hidle⟩

/-- Settles O44: a completing edge pulses `done` and every other edge clears it (R107). -/
theorem donePulsesAfterEachCompletingEdge : Obligations.DonePulsesAfterEachCompletingEdge := by
  intro s t hp h
  by_cases hc : ∃ w, s.Completing w
  · obtain ⟨w, hw⟩ := hc
    exact iff_of_true (step_of_completing hw h).left ⟨w, hw⟩
  · have hdone : t.done = 0#1 := (step_of_not_completing hp h hc).left
    exact iff_of_false (by simp [hdone]) hc

/-- Settles O45, by what an edge that completes nothing leaves, the reset edge apart (R42, R112). -/
theorem resultsHoldBetweenCompletions : Obligations.ResultsHoldBetweenCompletions :=
  fun _ _ hp h hr hnone => (step_of_not_completing hp h hnone).right hr

theorem power_of_completing (h : s.Completing w) : s.power = .operating := by
  obtain ⟨hacc, -⟩ | hfin := h
  · exact hacc.operating
  · exact hfin.operating

/-- With `LAT == 1` no sequenced operating block is busy: BUSY has 1 to `LAT - 1` edges left (R106). -/
theorem phase_idle_of_unit_latency (h : s.Sequenced) (hp : s.power = .operating) (hlat : s.params.lat = 1) :
    s.phase = .idle := by
  cases hf : s.phase with
  | idle => rfl
  | busy =>
    have hcount := h.busyCount hp hf
    omega

/-- Settles O54: in both clauses the block is idle and operating (R22, R106). -/
theorem readyWheneverNotBusy : Obligations.ReadyWheneverNotBusy := by
  refine ⟨fun s hinv hp hlat hr => ?_, fun s t w hc h hr => ?_⟩
  · exact cmdReady_of_idle hp (phase_idle_of_unit_latency hinv.sequenced hp hlat) hr
  · obtain ⟨-, -, hpower⟩ := everyStepKeepsTheParameter s t h
    exact cmdReady_of_idle (hpower (power_of_completing hc)) (step_of_completing hc h).right hr

/-! ### From the accepting edge to the completing edge (R106, R111, R113) -/

/-- A word completes alike from states that differ only in what a completion writes. -/
theorem completeWord_congr (h : ∀ r, s.complete r = t.complete r) : completeWord w s = completeWord w t := by
  obtain ⟨r, hr⟩ := completeWord_writes_one_result_set w
  rw [hr, hr, h]

/-- The block `k` edges after the accepting edge of `w`, that edge counted, for `1 <= k < LAT` (R104). -/
def State.pendingAfter (s : State) (w : CmdWord) (k : Nat) : State :=
  { s with inputs := s.inputs.drop k, done := 0#1, pend := w, cnt := s.params.lat - k, phase := .busy }

theorem State.edge_hold_eq_pendingAfter (s : State) (w : CmdWord) : s.edge.hold w = s.pendingAfter w 1 := by
  simp [State.edge, State.hold, State.pendingAfter]

theorem State.pendingAfter_edge_countDown (s : State) (w : CmdWord) (k : Nat) :
    (s.pendingAfter w k).edge.countDown = s.pendingAfter w (k + 1) := by
  simp [State.edge, State.countDown, State.pendingAfter, Nat.sub_sub]

/-- If no reset comes in the `n` cycles after the first, `rst` is 0 in each of them, past the end of the inputs too. -/
theorem rst_pendingAfter {n k : Nat} (hquiet : ∀ p ∈ (s.inputs.drop 1).take n, p.rst = .low) (hk : k < n) :
    (s.pendingAfter w (k + 1)).pins.rst = .low := by
  have hpins : (s.pendingAfter w (k + 1)).pins = s.inputs[k + 1]?.getD Pins.quiet := by
    simp [State.pins, State.pendingAfter, List.headD_eq_head?_getD]
  rw [hpins]
  cases hget : s.inputs[k + 1]? with
  | none => rfl
  | some p =>
    have hmem : p ∈ (s.inputs.drop 1).take n := by
      refine List.mem_of_getElem? (i := k) ?_
      rw [List.getElem?_take_of_lt hk, List.getElem?_drop, Nat.add_comm, hget]
    exact hquiet p hmem

section

variable (hacc : s.Accepting w) (hquiet : ∀ p ∈ (s.inputs.drop 1).take (s.params.lat - 1), p.rst = .low)
include hacc hquiet

/-- Between the accepting and the completing edge the block holds the word and counts, whatever is offered (R111). -/
theorem runEdges_pending {k : Nat} (hk : k + 1 < s.params.lat) :
    runEdges (k + 1) s = .next (s.pendingAfter w (k + 1)) := by
  induction k with
  | zero => rw [runEdges_one, step_accepting_hold hacc (by omega), s.edge_hold_eq_pendingAfter]
  | succ k ih =>
    have hrst : (s.pendingAfter w (k + 1)).pins.rst = .low := rst_pendingAfter hquiet (by omega)
    have hcnt : s.params.lat - (k + 1) ≠ 1 := by omega
    rw [runEdges_succ_of_next (ih (by omega)), step_countDown hrst hacc.operating rfl hcnt,
      s.pendingAfter_edge_countDown]

/-- The last edge of the `LAT` completes the word (R104). -/
theorem runEdges_lat :
    runEdges s.params.lat s = completeWord w { s with
      inputs := s.inputs.drop s.params.lat
      cnt := if s.params.lat = 1 then s.cnt else 0
      pend := if s.params.lat = 1 then s.pend else w } := by
  by_cases hlat : s.params.lat = 1
  · rw [hlat, runEdges_one, step_accepting_complete hacc hlat]
    exact completeWord_congr fun r => by simp [State.complete, State.edge]
  · obtain ⟨k, hk⟩ : ∃ k, s.params.lat = k + 2 := ⟨s.params.lat - 2, by have := lat_pos s.params; omega⟩
    have hfin : (s.pendingAfter w (k + 1)).Finishing w :=
      ⟨hacc.operating, rfl, rst_pendingAfter hquiet (by omega), by simp [State.pendingAfter, hk], rfl⟩
    rw [hk, runEdges_succ_of_next (runEdges_pending hacc hquiet (by omega)), step_finishing hfin]
    exact completeWord_congr fun r => by
      simp [State.complete, State.edge, State.release, State.pendingAfter, hacc.idle]

end

/-- Settles O47: the block after `LAT` edges, and after each `k < LAT` (R104, R106, R111, R115). -/
theorem acceptedWordCompletesAfterLatEdges : Obligations.AcceptedWordCompletesAfterLatEdges := by
  refine fun s w hacc hquiet => ⟨runEdges_lat hacc hquiet, fun k hpos hk => ?_⟩
  obtain ⟨k, rfl⟩ := Nat.exists_eq_add_of_le' hpos
  exact ⟨_, runEdges_pending hacc hquiet hk, rfl, rfl, rfl, rfl, rfl, cmdReady_of_busy hacc.operating rfl⟩

/-- An idle operating block under an offer of `w` accepts `w`. -/
theorem accepting_of_offer {rest : List Pins} (hp : s.power = .operating) (hf : s.phase = .idle)
    (hin : s.inputs = Pins.offer w :: rest) : s.Accepting w := by
  have hpins : s.pins = Pins.offer w := pins_of_inputs hin
  refine ⟨hp, hf, ?_, ?_, ?_⟩ <;> rw [hpins] <;> rfl

/-- Settles O48: each edge accepts and completes its own offer, and the state between is idle and ready (R113). -/
theorem backToBackCommandsWithUnitLatency : Obligations.BackToBackCommandsWithUnitLatency := by
  intro s w w' rest hp hf hlat hin
  obtain ⟨r, hr⟩ := completeWord_writes_one_result_set w
  obtain ⟨r', hr'⟩ := completeWord_writes_one_result_set w'
  have hfirst : runEdges 1 s = .next (s.edge.complete r) :=
    (step_accepting_complete (accepting_of_offer hp hf hin) hlat).trans (hr _)
  have hacc : (s.edge.complete r).Accepting w' := accepting_of_offer hp hf (congrArg List.tail hin)
  have hsecond : runEdges 2 s = .next ((s.edge.complete r).edge.complete r') := by
    rw [runEdges_succ_of_next hfirst, step_accepting_complete hacc hlat, hr']
  exact ⟨_, _, hfirst, hsecond, hr s, cmdReady_of_idle hp hf hacc.noReset, hr' s⟩

end Sys2Proof.Machine
end

section
/-! PROOFS. The block's invariant: what a completed word leaves is consistent, and every edge keeps the sequencing. -/

namespace Sys2Proof.Machine

variable {s t : State} {w : CmdWord}

/-! ### Remainders, masks and roundings, as the invariant speaks of them -/

/-- A remainder is 0 when its low byte is: the division clears the rest (R61, R63). -/
theorem div24_eq_zero_iff_low (a : Reading) : div24 a = 0#24 ↔ (div24 a).extractLsb' 0 8 = 0x00#8 := by
  refine ⟨fun h => h ▸ rfl, fun h => ?_⟩
  rw [← value_append_checksum (div24 a), div24_high, h]
  rfl

/-- The two masks have no bit in common (R72). -/
theorem maskRaw_and_maskStat (r : Half) : maskRaw r &&& Config.maskStat = 0#16 := by
  have hdisjoint : Config.maskData &&& Config.maskStat = 0#16 := by decide
  rw [maskRaw, BitVec.and_assoc, hdisjoint, BitVec.and_zero]

/-- `int32_centi` on the conversions, which 32 bits hold (R78, R79). -/
theorem Quantity.int32_centi_num (q : Quantity) (m : Half) :
    int32 (centi (q.num m)) = (int32 (q.num m)).sshiftRight 16 := by
  have hlo := BitVec.le_toInt (int32 (q.num m))
  have hhi := BitVec.toInt_lt (x := int32 (q.num m))
  rw [q.toInt_int32_num] at hlo hhi
  exact int32_centi hlo (Int.le_of_lt_add_one hhi)

/-! ### Each kind of result set is consistent -/

/-- Without an error nothing is asked of the failed and the illegal reports. -/
theorem Results.consistent_of_no_error {r : Results} (herr : r.rErr = 0#2) (hmask : r.rRaw &&& Config.maskStat = 0#16)
    (hok : r.rOk = 1#1 → r.rRem = 0x00#8) (hcenti : r.rCenti = r.rRes.sshiftRight 16)
    (hreg : r.rReg ≠ 0x00#8 → r.rLastOp = 0x03#8) : r.Consistent where
  errCode := by simp [herr]
  masked := hmask
  okRemainder h := ⟨hok h, herr⟩
  failed h := by simp [herr] at h
  illegal h := by simp [herr] at h
  centi _ := hcenti
  regByMerge := hreg

/-- A good verdict leaves no remainder (R63). -/
theorem Results.verify_rRem_of_rOk {r : Results} {a : Reading} (h : (r.verify a).rOk = 1#1) :
    (r.verify a).rRem = 0x00#8 := by
  cases hv : verdict a with
  | true => exact (div24_eq_zero_iff_low a).mp ((verdict_iff a).mp hv)
  | false => simp [hv] at h

/-- A conversion after no error, whether its reading was verified or not (R82 to R84). -/
theorem Results.convert_consistent {r : Results} (herr : r.rErr = 0#2) (hok : r.rOk = 1#1 → r.rRem = 0x00#8)
    (hreg : r.rReg = 0x00#8) (q : Quantity) (v : Half) : (r.convert q v).Consistent :=
  Results.consistent_of_no_error herr (maskRaw_and_maskStat v) hok (q.int32_centi_num (maskRaw v))
    (fun hne => absurd hreg hne)

/-- What a failed measurement leaves (R85). -/
theorem Results.sentinel_consistent {op : Byte} (hop : op = 0x07#8 ∨ op = 0x08#8) {a : Reading}
    (h : verdict a = false) : ((Results.ofOpcode op).verify a).sentinel.Consistent where
  errCode := by simp
  masked := by simp
  okRemainder hok := by simp [h] at hok
  failed _ := by
    have hrem : (div24 a).extractLsb' 0 8 ≠ 0x00#8 := mt (div24_eq_zero_iff_low a).mpr ((verdict_false_iff a).mp h)
    exact ⟨hop, congrArg BitVec.ofBool h, hrem, rfl, rfl, rfl, rfl, rfl⟩
  illegal herr := by simp at herr
  centi herr := by simp at herr
  regByMerge hreg := by simp at hreg

/-- Both outcomes of a measurement (R84). -/
theorem Results.measure_consistent {op : Byte} (hop : op = 0x07#8 ∨ op = 0x08#8) (q : Quantity) (a : Reading) :
    ((Results.ofOpcode op).measure q a).Consistent := by
  cases hv : verdict a with
  | true =>
    rw [Results.measure_of_verified hv]
    exact Results.convert_consistent rfl Results.verify_rRem_of_rOk rfl q _
  | false =>
    rw [Results.measure_of_failed hv]
    exact Results.sentinel_consistent hop hv

/-- What a reserved opcode leaves (R90). -/
theorem Results.illegalOp_consistent {op : Byte} (hop : reservedOpcode op) :
    ((Results.ofOpcode op).raise .illegalOp).Consistent where
  errCode := by simp [ErrorCode.code]
  masked := by simp
  okRemainder hok := by simp at hok
  failed herr := by simp [ErrorCode.code] at herr
  illegal _ := ⟨hop, rfl⟩
  centi herr := by simp [ErrorCode.code] at herr
  regByMerge hreg := by simp at hreg

/-! ### Every completion is consistent -/

theorem exec_consistent {i : Instr} (h : exec i s = .next t) : t.results.Consistent := by
  cases i <;> cases h
  case crcgen => exact Results.consistent_of_no_error rfl (by simp) (by simp) (by simp) (by simp)
  case crcchk => exact Results.consistent_of_no_error rfl (by simp) Results.verify_rRem_of_rOk (by simp) (by simp)
  case regmerge => exact Results.consistent_of_no_error rfl (by simp) (by simp) (by simp) (fun _ => rfl)
  case extract r => exact Results.consistent_of_no_error rfl (maskRaw_and_maskStat r) (by simp) (by simp) (by simp)
  case convt r => exact Results.convert_consistent rfl (by simp) rfl .temperature r
  case convrh r => exact Results.convert_consistent rfl (by simp) rfl .humidity r
  case meast => exact Results.measure_consistent (.inl rfl) ..
  case measrh => exact Results.measure_consistent (.inr rfl) ..

theorem completeWord_consistent (h : completeWord w s = .next t) : t.results.Consistent := by
  by_cases hres : reservedOpcode (opOf w)
  · rw [completeWord_of_reservedOpcode hres] at h
    cases h
    exact Results.illegalOp_consistent hres
  · obtain ⟨i, hi, -⟩ := decode_of_not_reservedOpcode hres
    rw [completeWord_of_command hi] at h
    exact exec_consistent h

/-! ### Every edge keeps the invariant -/

/-- The invariant says nothing of an unreset block (R109). -/
theorem State.inv_of_unreset (hp : s.power = .unreset) : s.Inv where
  sequenced := ⟨by simp [hp], by simp [hp], by simp [hp]⟩
  consistent := by simp [hp]

/-- A busy block with 1 to `LAT - 1` edges left and no `done` is sequenced. -/
theorem State.sequenced_of_busy (hf : s.phase = .busy) (hcount : 1 ≤ s.cnt ∧ s.cnt + 1 ≤ s.params.lat)
    (hdone : s.done = 0#1) : s.Sequenced where
  idleCount _ hi := by simp [hf] at hi
  busyCount _ _ := hcount
  busyQuiet _ _ := hdone

/-- A word that completes from `phase == IDLE` and `cnt == 0`, whatever the results were, leaves the invariant. -/
theorem inv_of_completeWord (hf : s.phase = .idle) (hc : s.cnt = 0) (h : completeWord w s = .next t) : t.Inv where
  sequenced := by
    obtain ⟨r, rfl⟩ := eq_complete_of_completeWord h
    exact State.sequenced_of_idle hf hc
  consistent _ := completeWord_consistent h

/-- Settles O53, branch by branch of the clock edge: the results are zeroed, held, or those of a completed word, and the
count is 0, `LAT - 1` or one less (R34, R104). -/
theorem everyStepKeepsTheInvariant : Obligations.EveryStepKeepsTheInvariant := by
  intro s t hinv h
  obtain ⟨-, rfl⟩ | ⟨-, hp, rfl⟩ | ⟨-, hp, hf, -, rfl⟩ | ⟨w, -, hlat, rfl⟩ | ⟨w, hacc, -, hw⟩ |
    ⟨-, hp, hf, hcnt, rfl⟩ | ⟨w, -, hw⟩ := step_cases h
  · exact ⟨State.sequenced_of_idle rfl rfl, fun _ => Results.zero_consistent⟩ -- reset
  · exact State.inv_of_unreset hp -- unreset
  · have hidle : s.cnt = 0 := hinv.sequenced.idleCount hp hf -- idle, nothing offered
    exact ⟨State.sequenced_of_idle hf hidle, hinv.consistent⟩
  · have hpos := lat_pos s.params -- accepting, `LAT >= 2`
    have hcount : 1 ≤ s.params.lat - 1 ∧ s.params.lat - 1 + 1 ≤ s.params.lat := by omega
    exact ⟨State.sequenced_of_busy rfl hcount rfl, hinv.consistent⟩
  · have hidle : s.cnt = 0 := hinv.sequenced.idleCount hacc.operating hacc.idle -- accepting and completing
    exact inv_of_completeWord (s := s.edge) hacc.idle hidle hw
  · have hbusy := hinv.sequenced.busyCount hp hf -- busy, counting down
    have hcount : 1 ≤ s.cnt - 1 ∧ s.cnt - 1 + 1 ≤ s.params.lat := by omega
    exact ⟨State.sequenced_of_busy hf hcount rfl, hinv.consistent⟩
  · exact inv_of_completeWord rfl rfl hw -- finishing

end Sys2Proof.Machine
end

section
/-! PROOFS. The statements of 30_encoding.md that stand open: a decoded command encodes back, and the sample words. -/

namespace Sys2Proof

open Machine

variable {w : CmdWord} {i : Instr}

/-! ### A word by its fields (R50 to R52) -/

theorem packWord_fields (w : CmdWord) : packWord (opOf w) (operandB w) (operandA w) = w := by
  have hhigh : opOf w ++ operandB w = w.extractLsb' 24 24 := BitVec.extractLsb'_append_extractLsb'_eq_extractLsb' rfl
  rw [packWord, hhigh]
  exact (BitVec.extractLsb'_append_extractLsb'_eq_extractLsb' rfl).trans (slice_whole w)

theorem registerBits_append_old (b : Half) : registerBitsOf b ++ oldOf b = b :=
  (BitVec.extractLsb'_append_extractLsb'_eq_extractLsb' rfl).trans (slice_whole b)

theorem operandB_and (w m : CmdWord) : operandB (w &&& m) = operandB w &&& operandB m := BitVec.extractLsb'_and

theorem operandA_and (w m : CmdWord) : operandA (w &&& m) = operandA w &&& operandA m := BitVec.extractLsb'_and

/-- Operand A with its checksum byte cleared. -/
theorem value16_append_zero (a : Reading) : value16Of a ++ 0x00#8 = a &&& 0xFFFF00#24 := by
  have hmask : (0xFFFF00#24 : Reading) = BitVec.allOnes 16 ++ 0x00#8 := rfl
  have hand : (value16Of a ++ checksum8Of a : Reading) &&& (BitVec.allOnes 16 ++ 0x00#8 : Reading) =
      (value16Of a &&& BitVec.allOnes 16) ++ (checksum8Of a &&& 0x00#8) := BitVec.and_append
  have hfields : value16Of a ++ checksum8Of a = a := value_append_checksum a
  rw [BitVec.and_allOnes, BitVec.and_zero, hfields] at hand
  rw [hmask, hand]

/-! ### The operands of the form read from a word -/

/-- Operand B is read whole by REGMERGE and not at all by the others (R53, R54). -/
theorem Instr.fieldB_readFrom (i : Instr) (w : CmdWord) :
    (i.readFrom w).fieldB = operandB w &&& operandB i.usedBits := by
  have hwhole : operandB 0xFFFFFF000000#48 = BitVec.allOnes 16 := by decide
  have hnoB : operandB 0xFF0000FFFFFF#48 = 0#16 := by decide
  have hvalue : operandB 0xFF0000FFFF00#48 = 0#16 := by decide
  cases i
  case regmerge => simp only [readFrom, fieldB, usedBits, hwhole, registerBits_append_old, BitVec.and_allOnes]
  all_goals simp only [readFrom, fieldB, usedBits, hnoB, hvalue, BitVec.and_zero]

/-- Operand A is read whole, without its checksum byte, or, by REGMERGE, not at all (R53, R54). -/
theorem Instr.fieldA_readFrom (i : Instr) (w : CmdWord) :
    (i.readFrom w).fieldA = operandA w &&& operandA i.usedBits := by
  have hwhole : operandA 0xFF0000FFFFFF#48 = BitVec.allOnes 24 := by decide
  have hvalue : operandA 0xFF0000FFFF00#48 = 0xFFFF00#24 := by decide
  have hnoA : operandA 0xFFFFFF000000#48 = 0#24 := by decide
  have hpair : value16Of (operandA w) ++ checksum8Of (operandA w) = operandA w := value_append_checksum _
  have hbytes : byte0Of (operandA w) ++ byte1Of (operandA w) ++ byte2Of (operandA w) = operandA w := wireReading_bytes _
  cases i
  case crcchk => simp only [readFrom, fieldA, usedBits, hwhole, hpair, BitVec.and_allOnes]
  case regmerge => simp only [readFrom, fieldA, usedBits, hnoA, BitVec.and_zero]
  case meast => simp only [readFrom, fieldA, usedBits, hwhole, hbytes, BitVec.and_allOnes]
  case measrh => simp only [readFrom, fieldA, usedBits, hwhole, hbytes, BitVec.and_allOnes]
  all_goals simp only [readFrom, fieldA, usedBits, hvalue, value16_append_zero]

/-- The operands of `i`'s form, read from a word with `i`'s opcode, encode to the bits of the word that `i` reads. -/
theorem encode_readFrom (h : opOf w = i.opcode) : encode (i.readFrom w) = w &&& i.usedBits := by
  rw [encode, i.opcode_readFrom, ← h, ← opOf_and_usedBits i, i.fieldB_readFrom, i.fieldA_readFrom,
    ← operandB_and, ← operandA_and, packWord_fields]

/-- The command a word decodes to has its operands from the word. -/
theorem readFrom_of_decode (h : decode w = .command i) : i.readFrom w = i :=
  Decoded.command.inj ((decode_of_opcode (opcode_of_decode h).symm).symm.trans h)

/-- Settles O2: a decoded command is its form read from the word (R53, R54). -/
theorem decodedWordsEncodeBackUpToIgnoredBits : Obligations.DecodedWordsEncodeBackUpToIgnoredBits := by
  intro w i h
  calc encode i = encode (i.readFrom w) := by rw [readFrom_of_decode h]
    _ = w &&& i.usedBits := encode_readFrom (opcode_of_decode h).symm

/-- Settles O4: the decoder evaluates on ten words (R54). -/
theorem sampleWordsDecodeAsTheOpcodeMapSays : Obligations.SampleWordsDecodeAsTheOpcodeMapSays := by
  unfold Obligations.SampleWordsDecodeAsTheOpcodeMapSays
  decide

end Sys2Proof
end

section
/-! PROOFS. The statement of 70_reset_and_hazards.md that stands open: a placed word runs in the next step. -/

namespace Sys2Proof.Machine

variable {s : State} {w : CmdWord}

/-! ### Placing a word (log 6) -/

@[simp] theorem State.placeWord_results (s : State) (w : CmdWord) : (s.placeWord w).results = s.results := by
  unfold State.placeWord
  split <;> rfl

@[simp] theorem State.placeWord_params (s : State) (w : CmdWord) : (s.placeWord w).params = s.params := by
  unfold State.placeWord
  split <;> rfl

/-- The placed word stands in front of the cycles that the host drives. -/
@[simp] theorem State.placeWord_inputs_tail (s : State) (w : CmdWord) : (s.placeWord w).inputs.tail = s.inputs := by
  unfold State.placeWord
  split <;> rfl

/-- The edge after a word is placed is the word's completing edge, at every `LAT`. -/
theorem completing_placeWord (s : State) (w : CmdWord) : (s.placeWord w).Completing w := by
  by_cases hlat : s.params.lat = 1
  · rw [State.placeWord, if_pos hlat]
    exact .inl ⟨accepting_of_offer rfl rfl rfl, hlat⟩
  · rw [State.placeWord, if_neg hlat]
    exact .inr ⟨rfl, rfl, rfl, rfl, rfl⟩

/-- What the state that a completing edge completes its word from holds of the state before the edge (R104). -/
theorem step_completing_keeps (h : s.Completing w) :
    ∃ e : State, step s = completeWord w e ∧ e.results = s.results ∧ e.params = s.params ∧
      e.inputs = s.inputs.tail := by
  obtain ⟨hacc, hlat⟩ | hfin := h
  · exact ⟨s.edge, step_accepting_complete hacc hlat, rfl, rfl, rfl⟩
  · exact ⟨s.edge.release, step_finishing hfin, rfl, rfl, rfl⟩

/-- A number below `2 ^ 48` is placed as the word of its bits (log 15). -/
theorem tableWord_eq_ofNat {n : Nat} (h : n < 2 ^ 48) : tableWord 48 n = BitVec.ofNat 48 n := by
  rw [tableWord, Nat.mod_eq_of_lt h]

/-- Settles O38: the step after the placing is a completing edge of the word, which decodes to the command. -/
theorem placedWordRunsInTheNextStep : Obligations.PlacedWordRunsInTheNextStep := by
  intro s n i hn hd
  obtain ⟨e, hstep, hresults, hparams, hinputs⟩ := step_completing_keeps (completing_placeWord s (tableWord 48 n))
  rw [← tableWord_eq_ofNat hn] at hd
  refine ⟨e, hstep.trans (completeWord_of_command hd e), ?_, ?_, ?_⟩
  · rw [hresults, State.placeWord_results]
  · rw [hparams, State.placeWord_params]
  · rw [hinputs, State.placeWord_inputs_tail]

end Sys2Proof.Machine
end
